-- ==== Sys2Proof/Word.lean ====
section
/-! DEFINITION. The two word types of the machine (spec/00_scope.md R2 and R4: 8-bit registers, cells and bus data; 16-bit
SP, PC and addresses, all wrapping). Everything that takes a word apart or puts one together stands in Machine/Bits.lean. -/

namespace Sys2Proof

/-- One 8-bit register, cell, immediate or bus datum (R2, R4). -/
abbrev Byte := BitVec 8

/-- One 16-bit register or bus address (R2, R4): arithmetic wraps modulo 2^16. -/
abbrev Word := BitVec 16

end Sys2Proof
end

