-- ==== Sys2Proof/Syntax.lean ====
section
/-! DEFINITION. The instruction set as syntax: one constructor of `Instr` for each of the 500 rows of
spec/opcode_table.json (spec/30_encoding.md R90, R100, R108), the operand selectors of R95 to R99, the maps from a family and
its selectors to the family's instructions (R101 to R105), the four formats of R90, and an instruction as it stands in
memory, with its operand bytes.

No constructor carries an immediate: the decoder's Instruction holds none (R98 and D10: operand bytes are read at execute,
at PC as it is after step S5), so under the HALT bug the operand bytes are not the ones that follow the opcode (log entry 1).
Names: `Mhl` is `(HL)`, `Mhli` `(HL+)`, `Mhld` `(HL-)`, `Mbc` `(BC)`, `Mde` `(DE)`, `Mc` `(C)`, `Ma16` `(a16)`, `Ma8` `(a8)`;
the prefixed rotates begin with `cb`; SUB, AND, XOR, OR and CP name their first operand A (the other spelling of R109). -/

namespace Sys2Proof

/-- An instruction: one of the 500 rows of spec/opcode_table.json (R100, R108). -/
inductive Instr where
  -- R270: NOP
  | nop
  -- R152: LD BC,d16 to LD SP,d16
  | ldBcD16 | ldDeD16 | ldHlD16 | ldSpD16
  -- R127: LD (BC),A
  | ldMbcA
  -- R211: INC BC to INC SP
  | incBc | incDe | incHl | incSp
  -- R196: INC B to INC A
  | incB | incC | incD | incE | incH | incL | incA
  -- R198: DEC B to DEC A
  | decB | decC | decD | decE | decH | decL | decA
  -- R123: LD B,d8 to LD A,d8
  | ldBD8 | ldCD8 | ldDD8 | ldED8 | ldHD8 | ldLD8 | ldAD8
  -- R220: RLCA
  | rlca
  -- R153: LD (a16),SP
  | ldMa16Sp
  -- R210: ADD HL,BC to ADD HL,SP
  | addHlBc | addHlDe | addHlHl | addHlSp
  -- R125: LD A,(BC)
  | ldAMbc
  -- R212: DEC BC to DEC SP
  | decBc | decDe | decHl | decSp
  -- R221: RRCA
  | rrca
  -- R274: STOP
  | stop
  -- R128: LD (DE),A
  | ldMdeA
  -- R222: RLA
  | rla
  -- R253: JR r8
  | jrR8
  -- R126: LD A,(DE)
  | ldAMde
  -- R223: RRA
  | rra
  -- R254: JR NZ,r8 to JR C,r8
  | jrNzR8 | jrZR8 | jrNcR8 | jrCR8
  -- R135: LD (HL+),A
  | ldMhliA
  -- R200: DAA
  | daa
  -- R137: LD A,(HL+)
  | ldAMhli
  -- R201: CPL
  | cpl
  -- R136: LD (HL-),A
  | ldMhldA
  -- R197: INC (HL)
  | incMhl
  -- R199: DEC (HL)
  | decMhl
  -- R124: LD (HL),d8
  | ldMhlD8
  -- R202: SCF
  | scf
  -- R138: LD A,(HL-)
  | ldAMhld
  -- R203: CCF
  | ccf
  -- R120: LD B,B to LD A,A
  | ldBB | ldBC | ldBD | ldBE | ldBH | ldBL | ldBA | ldCB | ldCC | ldCD | ldCE | ldCH | ldCL | ldCA | ldDB | ldDC
  | ldDD | ldDE | ldDH | ldDL | ldDA | ldEB | ldEC | ldED | ldEE | ldEH | ldEL | ldEA | ldHB | ldHC | ldHD | ldHE
  | ldHH | ldHL | ldHA | ldLB | ldLC | ldLD | ldLE | ldLH | ldLL | ldLA | ldAB | ldAC | ldAD | ldAE | ldAH | ldAL
  | ldAA
  -- R121: LD B,(HL) to LD A,(HL)
  | ldBMhl | ldCMhl | ldDMhl | ldEMhl | ldHMhl | ldLMhl | ldAMhl
  -- R122: LD (HL),B to LD (HL),A
  | ldMhlB | ldMhlC | ldMhlD | ldMhlE | ldMhlH | ldMhlL | ldMhlA
  -- R271: HALT
  | halt
  -- R172: ADD A,B to ADD A,A
  | addAB | addAC | addAD | addAE | addAH | addAL | addAA
  -- R173: ADD A,(HL)
  | addAMhl
  -- R175: ADC A,B to ADC A,A
  | adcAB | adcAC | adcAD | adcAE | adcAH | adcAL | adcAA
  -- R176: ADC A,(HL)
  | adcAMhl
  -- R178: SUB B to SUB A
  | subAB | subAC | subAD | subAE | subAH | subAL | subAA
  -- R179: SUB (HL)
  | subAMhl
  -- R181: SBC A,B to SBC A,A
  | sbcAB | sbcAC | sbcAD | sbcAE | sbcAH | sbcAL | sbcAA
  -- R182: SBC A,(HL)
  | sbcAMhl
  -- R184: AND B to AND A
  | andAB | andAC | andAD | andAE | andAH | andAL | andAA
  -- R185: AND (HL)
  | andAMhl
  -- R187: XOR B to XOR A
  | xorAB | xorAC | xorAD | xorAE | xorAH | xorAL | xorAA
  -- R188: XOR (HL)
  | xorAMhl
  -- R190: OR B to OR A
  | orAB | orAC | orAD | orAE | orAH | orAL | orAA
  -- R191: OR (HL)
  | orAMhl
  -- R193: CP B to CP A
  | cpAB | cpAC | cpAD | cpAE | cpAH | cpAL | cpAA
  -- R194: CP (HL)
  | cpAMhl
  -- R258: RET NZ to RET C
  | retNz | retZ | retNc | retC
  -- R157: POP BC to POP HL
  | popBc | popDe | popHl
  -- R251: JP NZ,a16 to JP C,a16
  | jpNzA16 | jpZA16 | jpNcA16 | jpCA16
  -- R250: JP a16
  | jpA16
  -- R256: CALL NZ,a16 to CALL C,a16
  | callNzA16 | callZA16 | callNcA16 | callCA16
  -- R156: PUSH BC to PUSH AF
  | pushBc | pushDe | pushHl | pushAf
  -- R174: ADD A,d8
  | addAD8
  -- R260: RST 0x00 to RST 0x38
  | rst00 | rst08 | rst10 | rst18 | rst20 | rst28 | rst30 | rst38
  -- R257: RET
  | ret
  -- R255: CALL a16
  | callA16
  -- R177: ADC A,d8
  | adcAD8
  -- R180: SUB d8
  | subAD8
  -- R259: RETI
  | reti
  -- R183: SBC A,d8
  | sbcAD8
  -- R132: LDH (a8),A
  | ldhMa8A
  -- R134: LD (C),A
  | ldMcA
  -- R186: AND d8
  | andAD8
  -- R213: ADD SP,r8
  | addSpR8
  -- R252: JP HL
  | jpHl
  -- R130: LD (a16),A
  | ldMa16A
  -- R189: XOR d8
  | xorAD8
  -- R131: LDH A,(a8)
  | ldhAMa8
  -- R158: POP AF
  | popAf
  -- R133: LD A,(C)
  | ldAMc
  -- R272: DI
  | di
  -- R192: OR d8
  | orAD8
  -- R155: LD HL,SP+r8
  | ldHlSpR8
  -- R154: LD SP,HL
  | ldSpHl
  -- R129: LD A,(a16)
  | ldAMa16
  -- R273: EI
  | ei
  -- R195: CP d8
  | cpAD8
  -- R225: RLC B to RLC A
  | cbRlcB | cbRlcC | cbRlcD | cbRlcE | cbRlcH | cbRlcL | cbRlcA
  -- R226: RLC (HL)
  | cbRlcMhl
  -- R227: RRC B to RRC A
  | cbRrcB | cbRrcC | cbRrcD | cbRrcE | cbRrcH | cbRrcL | cbRrcA
  -- R228: RRC (HL)
  | cbRrcMhl
  -- R229: RL B to RL A
  | cbRlB | cbRlC | cbRlD | cbRlE | cbRlH | cbRlL | cbRlA
  -- R230: RL (HL)
  | cbRlMhl
  -- R231: RR B to RR A
  | cbRrB | cbRrC | cbRrD | cbRrE | cbRrH | cbRrL | cbRrA
  -- R232: RR (HL)
  | cbRrMhl
  -- R233: SLA B to SLA A
  | cbSlaB | cbSlaC | cbSlaD | cbSlaE | cbSlaH | cbSlaL | cbSlaA
  -- R234: SLA (HL)
  | cbSlaMhl
  -- R235: SRA B to SRA A
  | cbSraB | cbSraC | cbSraD | cbSraE | cbSraH | cbSraL | cbSraA
  -- R236: SRA (HL)
  | cbSraMhl
  -- R237: SWAP B to SWAP A
  | cbSwapB | cbSwapC | cbSwapD | cbSwapE | cbSwapH | cbSwapL | cbSwapA
  -- R238: SWAP (HL)
  | cbSwapMhl
  -- R239: SRL B to SRL A
  | cbSrlB | cbSrlC | cbSrlD | cbSrlE | cbSrlH | cbSrlL | cbSrlA
  -- R240: SRL (HL)
  | cbSrlMhl
  -- R241: BIT 0,B to BIT 7,A
  | bit0B | bit0C | bit0D | bit0E | bit0H | bit0L | bit0A | bit1B | bit1C | bit1D | bit1E | bit1H | bit1L | bit1A
  | bit2B | bit2C | bit2D | bit2E | bit2H | bit2L | bit2A | bit3B | bit3C | bit3D | bit3E | bit3H | bit3L | bit3A
  | bit4B | bit4C | bit4D | bit4E | bit4H | bit4L | bit4A | bit5B | bit5C | bit5D | bit5E | bit5H | bit5L | bit5A
  | bit6B | bit6C | bit6D | bit6E | bit6H | bit6L | bit6A | bit7B | bit7C | bit7D | bit7E | bit7H | bit7L | bit7A
  -- R242: BIT 0,(HL) to BIT 7,(HL)
  | bit0Mhl | bit1Mhl | bit2Mhl | bit3Mhl | bit4Mhl | bit5Mhl | bit6Mhl | bit7Mhl
  -- R243: RES 0,B to RES 7,A
  | res0B | res0C | res0D | res0E | res0H | res0L | res0A | res1B | res1C | res1D | res1E | res1H | res1L | res1A
  | res2B | res2C | res2D | res2E | res2H | res2L | res2A | res3B | res3C | res3D | res3E | res3H | res3L | res3A
  | res4B | res4C | res4D | res4E | res4H | res4L | res4A | res5B | res5C | res5D | res5E | res5H | res5L | res5A
  | res6B | res6C | res6D | res6E | res6H | res6L | res6A | res7B | res7C | res7D | res7E | res7H | res7L | res7A
  -- R244: RES 0,(HL) to RES 7,(HL)
  | res0Mhl | res1Mhl | res2Mhl | res3Mhl | res4Mhl | res5Mhl | res6Mhl | res7Mhl
  -- R245: SET 0,B to SET 7,A
  | set0B | set0C | set0D | set0E | set0H | set0L | set0A | set1B | set1C | set1D | set1E | set1H | set1L | set1A
  | set2B | set2C | set2D | set2E | set2H | set2L | set2A | set3B | set3C | set3D | set3E | set3H | set3L | set3A
  | set4B | set4C | set4D | set4E | set4H | set4L | set4A | set5B | set5C | set5D | set5E | set5H | set5L | set5A
  | set6B | set6C | set6D | set6E | set6H | set6L | set6A | set7B | set7C | set7D | set7E | set7H | set7L | set7A
  -- R246: SET 0,(HL) to SET 7,(HL)
  | set0Mhl | set1Mhl | set2Mhl | set3Mhl | set4Mhl | set5Mhl | set6Mhl | set7Mhl
deriving DecidableEq, Repr

/-- A general register, with the selector it has in R95 (6 is not a register). -/
inductive Reg8 where
  | b | c | d | e | h | l | a
deriving DecidableEq, Repr

/-- The operand `x[i]` of R95: a register, or the memory cell at HL (selector 6). -/
inductive Opnd where
  | reg (r : Reg8)
  | mhl
deriving DecidableEq, Repr

/-- The second operand of an 8-bit accumulator instruction (spec/42_alu8.md): `x[i]`, or the immediate d8. -/
inductive Src8 where
  | reg (r : Reg8)
  | mhl
  | d8
deriving DecidableEq, Repr

/-- The 16-bit register `rp[p]` of R96. -/
inductive Reg16 where
  | bc | de | hl | sp
deriving DecidableEq, Repr

/-- The 16-bit register `rp2[p]` of R96, for PUSH and POP. -/
inductive Stk16 where
  | bc | de | hl | af
deriving DecidableEq, Repr

/-- The branch condition of R97. -/
inductive Cond where
  | nz | z | nc | c
deriving DecidableEq, Repr

/-- The accumulator operation of R99. -/
inductive AluOp where
  | add | adc | sub | sbc | and | xor | or | cp
deriving DecidableEq, Repr

/-- The prefixed rotate or shift of R105, group 0. -/
inductive RotOp where
  | rlc | rrc | rl | rr | sla | sra | swap | srl
deriving DecidableEq, Repr

/-- LD r,r' (R120): destination, then source. -/
def Instr.ldRR : Reg8 → Reg8 → Instr
  | .b, .b => .ldBB | .b, .c => .ldBC | .b, .d => .ldBD | .b, .e => .ldBE | .b, .h => .ldBH | .b, .l => .ldBL
  | .b, .a => .ldBA | .c, .b => .ldCB | .c, .c => .ldCC | .c, .d => .ldCD | .c, .e => .ldCE | .c, .h => .ldCH
  | .c, .l => .ldCL | .c, .a => .ldCA | .d, .b => .ldDB | .d, .c => .ldDC | .d, .d => .ldDD | .d, .e => .ldDE
  | .d, .h => .ldDH | .d, .l => .ldDL | .d, .a => .ldDA | .e, .b => .ldEB | .e, .c => .ldEC | .e, .d => .ldED
  | .e, .e => .ldEE | .e, .h => .ldEH | .e, .l => .ldEL | .e, .a => .ldEA | .h, .b => .ldHB | .h, .c => .ldHC
  | .h, .d => .ldHD | .h, .e => .ldHE | .h, .h => .ldHH | .h, .l => .ldHL | .h, .a => .ldHA | .l, .b => .ldLB
  | .l, .c => .ldLC | .l, .d => .ldLD | .l, .e => .ldLE | .l, .h => .ldLH | .l, .l => .ldLL | .l, .a => .ldLA
  | .a, .b => .ldAB | .a, .c => .ldAC | .a, .d => .ldAD | .a, .e => .ldAE | .a, .h => .ldAH | .a, .l => .ldAL
  | .a, .a => .ldAA

/-- LD r,(HL) (R121). -/
def Instr.ldRM : Reg8 → Instr
  | .b => .ldBMhl | .c => .ldCMhl | .d => .ldDMhl | .e => .ldEMhl | .h => .ldHMhl | .l => .ldLMhl | .a => .ldAMhl

/-- LD (HL),r (R122). -/
def Instr.ldMR : Reg8 → Instr
  | .b => .ldMhlB | .c => .ldMhlC | .d => .ldMhlD | .e => .ldMhlE | .h => .ldMhlH | .l => .ldMhlL | .a => .ldMhlA

/-- LD r,d8 (R123). -/
def Instr.ldRD8 : Reg8 → Instr
  | .b => .ldBD8 | .c => .ldCD8 | .d => .ldDD8 | .e => .ldED8 | .h => .ldHD8 | .l => .ldLD8 | .a => .ldAD8

/-- The accumulator operation of R99 on its second operand (R172 to R195). -/
def Instr.alu : AluOp → Src8 → Instr
  | .add, .reg .b => .addAB | .add, .reg .c => .addAC | .add, .reg .d => .addAD | .add, .reg .e => .addAE
  | .add, .reg .h => .addAH | .add, .reg .l => .addAL | .add, .reg .a => .addAA | .add, .mhl => .addAMhl
  | .add, .d8 => .addAD8 | .adc, .reg .b => .adcAB | .adc, .reg .c => .adcAC | .adc, .reg .d => .adcAD
  | .adc, .reg .e => .adcAE | .adc, .reg .h => .adcAH | .adc, .reg .l => .adcAL | .adc, .reg .a => .adcAA
  | .adc, .mhl => .adcAMhl | .adc, .d8 => .adcAD8 | .sub, .reg .b => .subAB | .sub, .reg .c => .subAC
  | .sub, .reg .d => .subAD | .sub, .reg .e => .subAE | .sub, .reg .h => .subAH | .sub, .reg .l => .subAL
  | .sub, .reg .a => .subAA | .sub, .mhl => .subAMhl | .sub, .d8 => .subAD8 | .sbc, .reg .b => .sbcAB
  | .sbc, .reg .c => .sbcAC | .sbc, .reg .d => .sbcAD | .sbc, .reg .e => .sbcAE | .sbc, .reg .h => .sbcAH
  | .sbc, .reg .l => .sbcAL | .sbc, .reg .a => .sbcAA | .sbc, .mhl => .sbcAMhl | .sbc, .d8 => .sbcAD8
  | .and, .reg .b => .andAB | .and, .reg .c => .andAC | .and, .reg .d => .andAD | .and, .reg .e => .andAE
  | .and, .reg .h => .andAH | .and, .reg .l => .andAL | .and, .reg .a => .andAA | .and, .mhl => .andAMhl
  | .and, .d8 => .andAD8 | .xor, .reg .b => .xorAB | .xor, .reg .c => .xorAC | .xor, .reg .d => .xorAD
  | .xor, .reg .e => .xorAE | .xor, .reg .h => .xorAH | .xor, .reg .l => .xorAL | .xor, .reg .a => .xorAA
  | .xor, .mhl => .xorAMhl | .xor, .d8 => .xorAD8 | .or, .reg .b => .orAB | .or, .reg .c => .orAC
  | .or, .reg .d => .orAD | .or, .reg .e => .orAE | .or, .reg .h => .orAH | .or, .reg .l => .orAL
  | .or, .reg .a => .orAA | .or, .mhl => .orAMhl | .or, .d8 => .orAD8 | .cp, .reg .b => .cpAB | .cp, .reg .c => .cpAC
  | .cp, .reg .d => .cpAD | .cp, .reg .e => .cpAE | .cp, .reg .h => .cpAH | .cp, .reg .l => .cpAL
  | .cp, .reg .a => .cpAA | .cp, .mhl => .cpAMhl | .cp, .d8 => .cpAD8

/-- INC r (R196). -/
def Instr.incR : Reg8 → Instr
  | .b => .incB | .c => .incC | .d => .incD | .e => .incE | .h => .incH | .l => .incL | .a => .incA

/-- DEC r (R198). -/
def Instr.decR : Reg8 → Instr
  | .b => .decB | .c => .decC | .d => .decD | .e => .decE | .h => .decH | .l => .decL | .a => .decA

/-- LD rr,d16 (R152). -/
def Instr.ld16 : Reg16 → Instr
  | .bc => .ldBcD16 | .de => .ldDeD16 | .hl => .ldHlD16 | .sp => .ldSpD16

/-- ADD HL,rr (R210). -/
def Instr.addHl : Reg16 → Instr
  | .bc => .addHlBc | .de => .addHlDe | .hl => .addHlHl | .sp => .addHlSp

/-- INC rr (R211). -/
def Instr.inc16 : Reg16 → Instr
  | .bc => .incBc | .de => .incDe | .hl => .incHl | .sp => .incSp

/-- DEC rr (R212). -/
def Instr.dec16 : Reg16 → Instr
  | .bc => .decBc | .de => .decDe | .hl => .decHl | .sp => .decSp

/-- PUSH rr (R156). -/
def Instr.push : Stk16 → Instr
  | .bc => .pushBc | .de => .pushDe | .hl => .pushHl | .af => .pushAf

/-- POP rr (R157, R158). -/
def Instr.pop : Stk16 → Instr
  | .bc => .popBc | .de => .popDe | .hl => .popHl | .af => .popAf

/-- JP cc,a16 (R251). -/
def Instr.jpCc : Cond → Instr
  | .nz => .jpNzA16 | .z => .jpZA16 | .nc => .jpNcA16 | .c => .jpCA16

/-- JR cc,r8 (R254). -/
def Instr.jrCc : Cond → Instr
  | .nz => .jrNzR8 | .z => .jrZR8 | .nc => .jrNcR8 | .c => .jrCR8

/-- CALL cc,a16 (R256). -/
def Instr.callCc : Cond → Instr
  | .nz => .callNzA16 | .z => .callZA16 | .nc => .callNcA16 | .c => .callCA16

/-- RET cc (R258). -/
def Instr.retCc : Cond → Instr
  | .nz => .retNz | .z => .retZ | .nc => .retNc | .c => .retC

/-- RST t (R260): the target is `8 * t`. -/
def Instr.rst : Fin 8 → Instr
  | 0 => .rst00 | 1 => .rst08 | 2 => .rst10 | 3 => .rst18 | 4 => .rst20 | 5 => .rst28 | 6 => .rst30 | 7 => .rst38

/-- The prefixed rotates, shifts and SWAP (R225 to R240). -/
def Instr.rot : RotOp → Opnd → Instr
  | .rlc, .reg .b => .cbRlcB | .rlc, .reg .c => .cbRlcC | .rlc, .reg .d => .cbRlcD | .rlc, .reg .e => .cbRlcE
  | .rlc, .reg .h => .cbRlcH | .rlc, .reg .l => .cbRlcL | .rlc, .reg .a => .cbRlcA | .rlc, .mhl => .cbRlcMhl
  | .rrc, .reg .b => .cbRrcB | .rrc, .reg .c => .cbRrcC | .rrc, .reg .d => .cbRrcD | .rrc, .reg .e => .cbRrcE
  | .rrc, .reg .h => .cbRrcH | .rrc, .reg .l => .cbRrcL | .rrc, .reg .a => .cbRrcA | .rrc, .mhl => .cbRrcMhl
  | .rl, .reg .b => .cbRlB | .rl, .reg .c => .cbRlC | .rl, .reg .d => .cbRlD | .rl, .reg .e => .cbRlE
  | .rl, .reg .h => .cbRlH | .rl, .reg .l => .cbRlL | .rl, .reg .a => .cbRlA | .rl, .mhl => .cbRlMhl
  | .rr, .reg .b => .cbRrB | .rr, .reg .c => .cbRrC | .rr, .reg .d => .cbRrD | .rr, .reg .e => .cbRrE
  | .rr, .reg .h => .cbRrH | .rr, .reg .l => .cbRrL | .rr, .reg .a => .cbRrA | .rr, .mhl => .cbRrMhl
  | .sla, .reg .b => .cbSlaB | .sla, .reg .c => .cbSlaC | .sla, .reg .d => .cbSlaD | .sla, .reg .e => .cbSlaE
  | .sla, .reg .h => .cbSlaH | .sla, .reg .l => .cbSlaL | .sla, .reg .a => .cbSlaA | .sla, .mhl => .cbSlaMhl
  | .sra, .reg .b => .cbSraB | .sra, .reg .c => .cbSraC | .sra, .reg .d => .cbSraD | .sra, .reg .e => .cbSraE
  | .sra, .reg .h => .cbSraH | .sra, .reg .l => .cbSraL | .sra, .reg .a => .cbSraA | .sra, .mhl => .cbSraMhl
  | .swap, .reg .b => .cbSwapB | .swap, .reg .c => .cbSwapC | .swap, .reg .d => .cbSwapD | .swap, .reg .e => .cbSwapE
  | .swap, .reg .h => .cbSwapH | .swap, .reg .l => .cbSwapL | .swap, .reg .a => .cbSwapA | .swap, .mhl => .cbSwapMhl
  | .srl, .reg .b => .cbSrlB | .srl, .reg .c => .cbSrlC | .srl, .reg .d => .cbSrlD | .srl, .reg .e => .cbSrlE
  | .srl, .reg .h => .cbSrlH | .srl, .reg .l => .cbSrlL | .srl, .reg .a => .cbSrlA | .srl, .mhl => .cbSrlMhl

/-- BIT b,x (R241, R242). -/
def Instr.bit : Fin 8 → Opnd → Instr
  | 0, .reg .b => .bit0B | 0, .reg .c => .bit0C | 0, .reg .d => .bit0D | 0, .reg .e => .bit0E | 0, .reg .h => .bit0H
  | 0, .reg .l => .bit0L | 0, .reg .a => .bit0A | 0, .mhl => .bit0Mhl | 1, .reg .b => .bit1B | 1, .reg .c => .bit1C
  | 1, .reg .d => .bit1D | 1, .reg .e => .bit1E | 1, .reg .h => .bit1H | 1, .reg .l => .bit1L | 1, .reg .a => .bit1A
  | 1, .mhl => .bit1Mhl | 2, .reg .b => .bit2B | 2, .reg .c => .bit2C | 2, .reg .d => .bit2D | 2, .reg .e => .bit2E
  | 2, .reg .h => .bit2H | 2, .reg .l => .bit2L | 2, .reg .a => .bit2A | 2, .mhl => .bit2Mhl | 3, .reg .b => .bit3B
  | 3, .reg .c => .bit3C | 3, .reg .d => .bit3D | 3, .reg .e => .bit3E | 3, .reg .h => .bit3H | 3, .reg .l => .bit3L
  | 3, .reg .a => .bit3A | 3, .mhl => .bit3Mhl | 4, .reg .b => .bit4B | 4, .reg .c => .bit4C | 4, .reg .d => .bit4D
  | 4, .reg .e => .bit4E | 4, .reg .h => .bit4H | 4, .reg .l => .bit4L | 4, .reg .a => .bit4A | 4, .mhl => .bit4Mhl
  | 5, .reg .b => .bit5B | 5, .reg .c => .bit5C | 5, .reg .d => .bit5D | 5, .reg .e => .bit5E | 5, .reg .h => .bit5H
  | 5, .reg .l => .bit5L | 5, .reg .a => .bit5A | 5, .mhl => .bit5Mhl | 6, .reg .b => .bit6B | 6, .reg .c => .bit6C
  | 6, .reg .d => .bit6D | 6, .reg .e => .bit6E | 6, .reg .h => .bit6H | 6, .reg .l => .bit6L | 6, .reg .a => .bit6A
  | 6, .mhl => .bit6Mhl | 7, .reg .b => .bit7B | 7, .reg .c => .bit7C | 7, .reg .d => .bit7D | 7, .reg .e => .bit7E
  | 7, .reg .h => .bit7H | 7, .reg .l => .bit7L | 7, .reg .a => .bit7A | 7, .mhl => .bit7Mhl

/-- RES b,x (R243, R244). -/
def Instr.res : Fin 8 → Opnd → Instr
  | 0, .reg .b => .res0B | 0, .reg .c => .res0C | 0, .reg .d => .res0D | 0, .reg .e => .res0E | 0, .reg .h => .res0H
  | 0, .reg .l => .res0L | 0, .reg .a => .res0A | 0, .mhl => .res0Mhl | 1, .reg .b => .res1B | 1, .reg .c => .res1C
  | 1, .reg .d => .res1D | 1, .reg .e => .res1E | 1, .reg .h => .res1H | 1, .reg .l => .res1L | 1, .reg .a => .res1A
  | 1, .mhl => .res1Mhl | 2, .reg .b => .res2B | 2, .reg .c => .res2C | 2, .reg .d => .res2D | 2, .reg .e => .res2E
  | 2, .reg .h => .res2H | 2, .reg .l => .res2L | 2, .reg .a => .res2A | 2, .mhl => .res2Mhl | 3, .reg .b => .res3B
  | 3, .reg .c => .res3C | 3, .reg .d => .res3D | 3, .reg .e => .res3E | 3, .reg .h => .res3H | 3, .reg .l => .res3L
  | 3, .reg .a => .res3A | 3, .mhl => .res3Mhl | 4, .reg .b => .res4B | 4, .reg .c => .res4C | 4, .reg .d => .res4D
  | 4, .reg .e => .res4E | 4, .reg .h => .res4H | 4, .reg .l => .res4L | 4, .reg .a => .res4A | 4, .mhl => .res4Mhl
  | 5, .reg .b => .res5B | 5, .reg .c => .res5C | 5, .reg .d => .res5D | 5, .reg .e => .res5E | 5, .reg .h => .res5H
  | 5, .reg .l => .res5L | 5, .reg .a => .res5A | 5, .mhl => .res5Mhl | 6, .reg .b => .res6B | 6, .reg .c => .res6C
  | 6, .reg .d => .res6D | 6, .reg .e => .res6E | 6, .reg .h => .res6H | 6, .reg .l => .res6L | 6, .reg .a => .res6A
  | 6, .mhl => .res6Mhl | 7, .reg .b => .res7B | 7, .reg .c => .res7C | 7, .reg .d => .res7D | 7, .reg .e => .res7E
  | 7, .reg .h => .res7H | 7, .reg .l => .res7L | 7, .reg .a => .res7A | 7, .mhl => .res7Mhl

/-- SET b,x (R245, R246). -/
def Instr.set : Fin 8 → Opnd → Instr
  | 0, .reg .b => .set0B | 0, .reg .c => .set0C | 0, .reg .d => .set0D | 0, .reg .e => .set0E | 0, .reg .h => .set0H
  | 0, .reg .l => .set0L | 0, .reg .a => .set0A | 0, .mhl => .set0Mhl | 1, .reg .b => .set1B | 1, .reg .c => .set1C
  | 1, .reg .d => .set1D | 1, .reg .e => .set1E | 1, .reg .h => .set1H | 1, .reg .l => .set1L | 1, .reg .a => .set1A
  | 1, .mhl => .set1Mhl | 2, .reg .b => .set2B | 2, .reg .c => .set2C | 2, .reg .d => .set2D | 2, .reg .e => .set2E
  | 2, .reg .h => .set2H | 2, .reg .l => .set2L | 2, .reg .a => .set2A | 2, .mhl => .set2Mhl | 3, .reg .b => .set3B
  | 3, .reg .c => .set3C | 3, .reg .d => .set3D | 3, .reg .e => .set3E | 3, .reg .h => .set3H | 3, .reg .l => .set3L
  | 3, .reg .a => .set3A | 3, .mhl => .set3Mhl | 4, .reg .b => .set4B | 4, .reg .c => .set4C | 4, .reg .d => .set4D
  | 4, .reg .e => .set4E | 4, .reg .h => .set4H | 4, .reg .l => .set4L | 4, .reg .a => .set4A | 4, .mhl => .set4Mhl
  | 5, .reg .b => .set5B | 5, .reg .c => .set5C | 5, .reg .d => .set5D | 5, .reg .e => .set5E | 5, .reg .h => .set5H
  | 5, .reg .l => .set5L | 5, .reg .a => .set5A | 5, .mhl => .set5Mhl | 6, .reg .b => .set6B | 6, .reg .c => .set6C
  | 6, .reg .d => .set6D | 6, .reg .e => .set6E | 6, .reg .h => .set6H | 6, .reg .l => .set6L | 6, .reg .a => .set6A
  | 6, .mhl => .set6Mhl | 7, .reg .b => .set7B | 7, .reg .c => .set7C | 7, .reg .d => .set7D | 7, .reg .e => .set7E
  | 7, .reg .h => .set7H | 7, .reg .l => .set7L | 7, .reg .a => .set7A | 7, .mhl => .set7Mhl

/-- The four formats of R90. -/
inductive Format where
  | u1 | u2 | u3 | cb
deriving DecidableEq, Repr

/-- The 25 instructions of format U2 (R90): one operand byte (d8, a8 or r8) after the opcode. -/
def Instr.formatU2 : List Instr :=
  [.ldBD8, .ldCD8, .ldDD8, .jrR8, .ldED8, .jrNzR8, .ldHD8, .jrZR8, .ldLD8, .jrNcR8, .ldMhlD8, .jrCR8, .ldAD8, .addAD8,
   .adcAD8, .subAD8, .sbcAD8, .ldhMa8A, .andAD8, .addSpR8, .xorAD8, .ldhAMa8, .orAD8, .ldHlSpR8, .cpAD8]

/-- The 17 instructions of format U3 (R90): two operand bytes (d16 or a16, low byte first) after the opcode. -/
def Instr.formatU3 : List Instr :=
  [.ldBcD16, .ldMa16Sp, .ldDeD16, .ldHlD16, .ldSpD16, .jpNzA16, .jpA16, .callNzA16, .jpZA16, .callZA16, .callA16,
   .jpNcA16, .callNcA16, .jpCA16, .callCA16, .ldMa16A, .ldAMa16]

/-- How many operand bytes follow the opcode byte or bytes (R90, R107): fixed by the instruction. -/
def Instr.operandBytes (i : Instr) : Nat :=
  if i ∈ Instr.formatU3 then 2 else if i ∈ Instr.formatU2 then 1 else 0

/-- An instruction as it stands in memory: the instruction and the operand bytes after its opcode, in address order. Only
the assembler's view and the encoding laws use it; the machine reads operand bytes itself, at execute (R98, log entry 1). -/
structure CodedInstr where
  instr : Instr
  operands : List Byte
deriving DecidableEq, Repr

end Sys2Proof
end

