-- ==== Sys2Proof/Config.lean ====
section
/-! DEFINITION. The parameters of the machine (spec/00_scope.md R2, spec/92_eei_decisions.md) and the PPU collaborator
(spec/20_memory.md R62). The parameters are plain data, held by the state and never changed by a step, so that a claim about
every state holds for every value of them (log entry 4). What the collaborator answers is open: two constants with no body,
so that no proof can know a value (log entry 8). -/

namespace Sys2Proof.Config

/-- What opcode 0x10 does (R274, D24). -/
inductive StopBehaviour where
  /-- The default: `raise Fatal(StopUnmodelled)`. -/
  | fatal
  /-- The alternative: skip the byte after the opcode and do nothing else. -/
  | nop2
deriving DecidableEq, Repr

/-- One entry that differs from the default of `CYCLES` (R380, D29): the instruction, its T-cycles, and its T-cycles when a
conditional transfer is taken. -/
structure CostOverride where
  instr : Instr
  cycles : Nat
  taken : Nat
deriving DecidableEq, Repr

/-- The parameters that govern the machine while it runs (R2), with the spec's defaults. -/
structure Params where
  /-- `STOP_BEHAVIOUR` (D24). -/
  stopBehaviour : StopBehaviour := .fatal
  /-- `SERIAL_IRQ_WIRED` (D20): whether a serial transfer requests the Serial interrupt. -/
  serialIrqWired : Bool := false
  /-- `TAC_READ_FILL` (D15): bits 7..3 of a read of 0xFF07. -/
  tacReadFill : BitVec 5 := 0
  /-- `CYCLES` (D29), as the entries in which it differs from spec/opcode_table.json; the first entry of an instruction counts. -/
  costs : List CostOverride := []
deriving DecidableEq, Repr

/-- The parameters of reset: `RESET`, `RESET_COUNTER` and `RESET_RAM` (R360, R363, R364; D2, D5, D6), with the defaults.
`RESET_RAM` is given as pairs of an address and the byte there; addresses outside the four RAM regions count for nothing. -/
structure ResetParams where
  a : Byte := 0x01
  z : Bool := true
  n : Bool := false
  h : Bool := true
  c : Bool := true
  regB : Byte := 0x00
  regC : Byte := 0x13
  regD : Byte := 0x00
  regE : Byte := 0xD8
  regH : Byte := 0x01
  regL : Byte := 0x4D
  sp : Word := 0xFFFE
  counter : BitVec 16 := 0x0000
  ram : List (Word × Byte) := []
deriving DecidableEq, Repr

/-- One call of the PPU collaborator's four functions (R62). -/
inductive PpuCall where
  | readVram (offset : BitVec 13)
  | writeVram (offset : BitVec 13) (value : Byte)
  | readRegister (addr : Word)
  | writeRegister (addr : Word) (value : Byte)
deriving DecidableEq, Repr

/-- A call with the number of T-cycles that had gone by since reset when it was made. -/
structure PpuEvent where
  time : Nat
  call : PpuCall
deriving DecidableEq, Repr

/-- FREE VALUE (log entry 8): what `PPU.read_vram(offset)` returns, after these calls (newest first) and at this time. -/
opaque ppuReadVram : List PpuEvent → Nat → BitVec 13 → Byte

/-- FREE VALUE (log entry 8): what `PPU.read_register(addr)` returns, after these calls (newest first) and at this time. -/
opaque ppuReadRegister : List PpuEvent → Nat → Word → Byte

end Sys2Proof.Config
end

