-- ==== Sys2Proof/WellFormed.lean ====
section
/-! DEFINITION. When an instruction as it stands in memory is well formed: it has exactly the operand bytes its format has
(spec/30_encoding.md R90, R107). An `Instr` alone is a row of the opcode table and always well formed: it has no field. -/

namespace Sys2Proof

/-- The number of operand bytes is the one R90 gives the instruction's format. -/
def CodedInstr.wf (c : CodedInstr) : Bool :=
  c.operands.length == c.instr.operandBytes

end Sys2Proof
end

