-- ==== Sys2Proof/Decode.lean ====
section
/-! DEFINITION. The decoder of spec/30_encoding.md (R100 to R107), from the fields of R91 and R92 and the selector tables of
R95 to R99; the encoder, from the `match` column of spec/opcode_table.json (R108); and the host's reading of a table word.
Decoding is total: the 11 unassigned first bytes of R106 and a truncated byte list are rejected by name. -/

namespace Sys2Proof

/-- The operand selector of R95 (3 bits). -/
def Opnd.ofSel : Nat → Opnd
  | 0 => .reg .b
  | 1 => .reg .c
  | 2 => .reg .d
  | 3 => .reg .e
  | 4 => .reg .h
  | 5 => .reg .l
  | 6 => .mhl
  | _ => .reg .a

/-- The operand of R95 as the second operand of an accumulator instruction. -/
def Opnd.toSrc : Opnd → Src8
  | .reg r => .reg r
  | .mhl => .mhl

/-- The table `rp` of R96 (2 bits). -/
def Reg16.ofSel : Nat → Reg16
  | 0 => .bc
  | 1 => .de
  | 2 => .hl
  | _ => .sp

/-- The table `rp2` of R96 (2 bits). -/
def Stk16.ofSel : Nat → Stk16
  | 0 => .bc
  | 1 => .de
  | 2 => .hl
  | _ => .af

/-- The branch condition of R97 (2 bits). -/
def Cond.ofSel : Nat → Cond
  | 0 => .nz
  | 1 => .z
  | 2 => .nc
  | _ => .c

/-- The accumulator operation of R99 (3 bits). -/
def AluOp.ofSel : Nat → AluOp
  | 0 => .add
  | 1 => .adc
  | 2 => .sub
  | 3 => .sbc
  | 4 => .and
  | 5 => .xor
  | 6 => .or
  | _ => .cp

/-- The prefixed rotate or shift of R105, group 0 (3 bits). -/
def RotOp.ofSel : Nat → RotOp
  | 0 => .rlc
  | 1 => .rrc
  | 2 => .rl
  | 3 => .rr
  | 4 => .sla
  | 5 => .sra
  | 6 => .swap
  | _ => .srl

/-- INC x[Y] (R101, Z = 4). -/
def Opnd.incInstr : Opnd → Instr
  | .reg r => Instr.incR r
  | .mhl => .incMhl

/-- DEC x[Y] (R101, Z = 5). -/
def Opnd.decInstr : Opnd → Instr
  | .reg r => Instr.decR r
  | .mhl => .decMhl

/-- LD x[Y],d8 (R101, Z = 6). -/
def Opnd.ldD8Instr : Opnd → Instr
  | .reg r => Instr.ldRD8 r
  | .mhl => .ldMhlD8

/-- LD x[Y],x[Z] (R102): memory to memory is HALT. -/
def Opnd.ldInstr : Opnd → Opnd → Instr
  | .reg r, .reg r' => Instr.ldRR r r'
  | .reg r, .mhl => Instr.ldRM r
  | .mhl, .reg r => Instr.ldMR r
  | .mhl, .mhl => .halt

/-- Quadrant 0 (R101), by Z, then Y, or Q = Y mod 2 and P = Y / 2 (R91). -/
def decodeQuad0 (y z : Nat) : Instr :=
  match z with
  | 0 =>
    match y with
    | 0 => .nop
    | 1 => .ldMa16Sp
    | 2 => .stop
    | 3 => .jrR8
    | _ => Instr.jrCc (Cond.ofSel (y - 4))
  | 1 => if y % 2 = 0 then Instr.ld16 (Reg16.ofSel (y / 2)) else Instr.addHl (Reg16.ofSel (y / 2))
  | 2 =>
    match y with
    | 0 => .ldMbcA
    | 1 => .ldAMbc
    | 2 => .ldMdeA
    | 3 => .ldAMde
    | 4 => .ldMhliA
    | 5 => .ldAMhli
    | 6 => .ldMhldA
    | _ => .ldAMhld
  | 3 => if y % 2 = 0 then Instr.inc16 (Reg16.ofSel (y / 2)) else Instr.dec16 (Reg16.ofSel (y / 2))
  | 4 => (Opnd.ofSel y).incInstr
  | 5 => (Opnd.ofSel y).decInstr
  | 6 => (Opnd.ofSel y).ldD8Instr
  | _ =>
    match y with
    | 0 => .rlca
    | 1 => .rrca
    | 2 => .rla
    | 3 => .rra
    | 4 => .daa
    | 5 => .cpl
    | 6 => .scf
    | _ => .ccf

/-- RST t with `t = Y` (R104, Z = 7): the 3-bit field is a target number 0 to 7. -/
def decodeRst (y : Nat) : Instr :=
  Instr.rst (Fin.ofNat 8 y)

/-- Quadrant 3 (R104); none for the prefix byte and the 11 unassigned values (R106). -/
def decodeQuad3 (y z : Nat) : Option Instr :=
  match z with
  | 0 =>
    match y with
    | 4 => some .ldhMa8A
    | 5 => some .addSpR8
    | 6 => some .ldhAMa8
    | 7 => some .ldHlSpR8
    | _ => some (Instr.retCc (Cond.ofSel y))
  | 1 =>
    match y with
    | 1 => some .ret
    | 3 => some .reti
    | 5 => some .jpHl
    | 7 => some .ldSpHl
    | _ => some (Instr.pop (Stk16.ofSel (y / 2)))
  | 2 =>
    match y with
    | 4 => some .ldMcA
    | 5 => some .ldMa16A
    | 6 => some .ldAMc
    | 7 => some .ldAMa16
    | _ => some (Instr.jpCc (Cond.ofSel y))
  | 3 =>
    match y with
    | 0 => some .jpA16
    | 6 => some .di
    | 7 => some .ei
    | _ => none
  | 4 => if y < 4 then some (Instr.callCc (Cond.ofSel y)) else none
  | 5 =>
    match y with
    | 1 => some .callA16
    | 3 => none
    | 5 => none
    | 7 => none
    | _ => some (Instr.push (Stk16.ofSel (y / 2)))
  | 6 => some (Instr.alu (AluOp.ofSel y) .d8)
  | _ => some (decodeRst y)

/-- An unprefixed opcode byte, by its quadrant X (R91, R101 to R104). -/
def decodeUnprefixed (op : Byte) : Option Instr :=
  let y := op.toNat / 8 % 8
  let z := op.toNat % 8
  match op.toNat / 64 with
  | 0 => some (decodeQuad0 y z)
  | 1 => some ((Opnd.ofSel y).ldInstr (Opnd.ofSel z))
  | 2 => some (Instr.alu (AluOp.ofSel y) (Opnd.ofSel z).toSrc)
  | _ => decodeQuad3 y z

/-- A sub-opcode, the byte after the prefix 0xCB, by its group G (R92, R105): all 256 values are assigned. -/
def decodePrefixed (op2 : Byte) : Instr :=
  let y := op2.toNat / 8 % 8
  let x := Opnd.ofSel (op2.toNat % 8)
  match op2.toNat / 64 with
  | 0 => Instr.rot (RotOp.ofSel y) x
  | 1 => Instr.bit (Fin.ofNat 8 y) x
  | 2 => Instr.res (Fin.ofNat 8 y) x
  | _ => Instr.set (Fin.ofNat 8 y) x

/-- The decoder of R100. -/
def decode (op : Byte) (prefixed : Bool) : Option Instr :=
  if prefixed then some (decodePrefixed op) else decodeUnprefixed op

/-- Why a byte list is no instruction. -/
inductive DecodeReject where
  /-- The first byte is one of the 11 unassigned values of R106. -/
  | unassignedOpcode (op : Byte)
  /-- The list ends before the instruction does (a list only: the machine's address space has no end). -/
  | truncated
deriving DecidableEq, Repr

/-- Take an instruction's operand bytes (R90) off the front of the bytes after its opcode. -/
def takeOperands (i : Instr) (rest : List Byte) : Except DecodeReject (CodedInstr × List Byte) :=
  if rest.length < i.operandBytes then .error .truncated
  else .ok (⟨i, rest.take i.operandBytes⟩, rest.drop i.operandBytes)

/-- Decode one instruction and its operand bytes from the front of a byte list (R107); total, rejecting by name. -/
def decodeBytes : List Byte → Except DecodeReject (CodedInstr × List Byte)
  | [] => .error .truncated
  | op :: rest =>
    if op = 0xCB then
      match rest with
      | [] => .error .truncated
      | op2 :: rest' => takeOperands (decodePrefixed op2) rest'
    else
      match decode op false with
      | none => .error (.unassignedOpcode op)
      | some i => takeOperands i rest

/-- The `match` column of spec/opcode_table.json (R108): the opcode byte, or 0xCB00 with the sub-opcode. -/
def Instr.opcode : Instr → Nat
  | .nop => 0x00 | .ldBcD16 => 0x01 | .ldDeD16 => 0x11 | .ldHlD16 => 0x21 | .ldSpD16 => 0x31 | .ldMbcA => 0x02
  | .incBc => 0x03 | .incDe => 0x13 | .incHl => 0x23 | .incSp => 0x33 | .incB => 0x04 | .incC => 0x0C | .incD => 0x14
  | .incE => 0x1C | .incH => 0x24 | .incL => 0x2C | .incA => 0x3C | .decB => 0x05 | .decC => 0x0D | .decD => 0x15
  | .decE => 0x1D | .decH => 0x25 | .decL => 0x2D | .decA => 0x3D | .ldBD8 => 0x06 | .ldCD8 => 0x0E | .ldDD8 => 0x16
  | .ldED8 => 0x1E | .ldHD8 => 0x26 | .ldLD8 => 0x2E | .ldAD8 => 0x3E | .rlca => 0x07 | .ldMa16Sp => 0x08
  | .addHlBc => 0x09 | .addHlDe => 0x19 | .addHlHl => 0x29 | .addHlSp => 0x39 | .ldAMbc => 0x0A | .decBc => 0x0B
  | .decDe => 0x1B | .decHl => 0x2B | .decSp => 0x3B | .rrca => 0x0F | .stop => 0x10 | .ldMdeA => 0x12 | .rla => 0x17
  | .jrR8 => 0x18 | .ldAMde => 0x1A | .rra => 0x1F | .jrNzR8 => 0x20 | .jrZR8 => 0x28 | .jrNcR8 => 0x30
  | .jrCR8 => 0x38 | .ldMhliA => 0x22 | .daa => 0x27 | .ldAMhli => 0x2A | .cpl => 0x2F | .ldMhldA => 0x32
  | .incMhl => 0x34 | .decMhl => 0x35 | .ldMhlD8 => 0x36 | .scf => 0x37 | .ldAMhld => 0x3A | .ccf => 0x3F
  | .ldBB => 0x40 | .ldBC => 0x41 | .ldBD => 0x42 | .ldBE => 0x43 | .ldBH => 0x44 | .ldBL => 0x45 | .ldBA => 0x47
  | .ldCB => 0x48 | .ldCC => 0x49 | .ldCD => 0x4A | .ldCE => 0x4B | .ldCH => 0x4C | .ldCL => 0x4D | .ldCA => 0x4F
  | .ldDB => 0x50 | .ldDC => 0x51 | .ldDD => 0x52 | .ldDE => 0x53 | .ldDH => 0x54 | .ldDL => 0x55 | .ldDA => 0x57
  | .ldEB => 0x58 | .ldEC => 0x59 | .ldED => 0x5A | .ldEE => 0x5B | .ldEH => 0x5C | .ldEL => 0x5D | .ldEA => 0x5F
  | .ldHB => 0x60 | .ldHC => 0x61 | .ldHD => 0x62 | .ldHE => 0x63 | .ldHH => 0x64 | .ldHL => 0x65 | .ldHA => 0x67
  | .ldLB => 0x68 | .ldLC => 0x69 | .ldLD => 0x6A | .ldLE => 0x6B | .ldLH => 0x6C | .ldLL => 0x6D | .ldLA => 0x6F
  | .ldAB => 0x78 | .ldAC => 0x79 | .ldAD => 0x7A | .ldAE => 0x7B | .ldAH => 0x7C | .ldAL => 0x7D | .ldAA => 0x7F
  | .ldBMhl => 0x46 | .ldCMhl => 0x4E | .ldDMhl => 0x56 | .ldEMhl => 0x5E | .ldHMhl => 0x66 | .ldLMhl => 0x6E
  | .ldAMhl => 0x7E | .ldMhlB => 0x70 | .ldMhlC => 0x71 | .ldMhlD => 0x72 | .ldMhlE => 0x73 | .ldMhlH => 0x74
  | .ldMhlL => 0x75 | .ldMhlA => 0x77 | .halt => 0x76 | .addAB => 0x80 | .addAC => 0x81 | .addAD => 0x82
  | .addAE => 0x83 | .addAH => 0x84 | .addAL => 0x85 | .addAA => 0x87 | .addAMhl => 0x86 | .adcAB => 0x88
  | .adcAC => 0x89 | .adcAD => 0x8A | .adcAE => 0x8B | .adcAH => 0x8C | .adcAL => 0x8D | .adcAA => 0x8F
  | .adcAMhl => 0x8E | .subAB => 0x90 | .subAC => 0x91 | .subAD => 0x92 | .subAE => 0x93 | .subAH => 0x94
  | .subAL => 0x95 | .subAA => 0x97 | .subAMhl => 0x96 | .sbcAB => 0x98 | .sbcAC => 0x99 | .sbcAD => 0x9A
  | .sbcAE => 0x9B | .sbcAH => 0x9C | .sbcAL => 0x9D | .sbcAA => 0x9F | .sbcAMhl => 0x9E | .andAB => 0xA0
  | .andAC => 0xA1 | .andAD => 0xA2 | .andAE => 0xA3 | .andAH => 0xA4 | .andAL => 0xA5 | .andAA => 0xA7
  | .andAMhl => 0xA6 | .xorAB => 0xA8 | .xorAC => 0xA9 | .xorAD => 0xAA | .xorAE => 0xAB | .xorAH => 0xAC
  | .xorAL => 0xAD | .xorAA => 0xAF | .xorAMhl => 0xAE | .orAB => 0xB0 | .orAC => 0xB1 | .orAD => 0xB2 | .orAE => 0xB3
  | .orAH => 0xB4 | .orAL => 0xB5 | .orAA => 0xB7 | .orAMhl => 0xB6 | .cpAB => 0xB8 | .cpAC => 0xB9 | .cpAD => 0xBA
  | .cpAE => 0xBB | .cpAH => 0xBC | .cpAL => 0xBD | .cpAA => 0xBF | .cpAMhl => 0xBE | .retNz => 0xC0 | .retZ => 0xC8
  | .retNc => 0xD0 | .retC => 0xD8 | .popBc => 0xC1 | .popDe => 0xD1 | .popHl => 0xE1 | .jpNzA16 => 0xC2
  | .jpZA16 => 0xCA | .jpNcA16 => 0xD2 | .jpCA16 => 0xDA | .jpA16 => 0xC3 | .callNzA16 => 0xC4 | .callZA16 => 0xCC
  | .callNcA16 => 0xD4 | .callCA16 => 0xDC | .pushBc => 0xC5 | .pushDe => 0xD5 | .pushHl => 0xE5 | .pushAf => 0xF5
  | .addAD8 => 0xC6 | .rst00 => 0xC7 | .rst08 => 0xCF | .rst10 => 0xD7 | .rst18 => 0xDF | .rst20 => 0xE7
  | .rst28 => 0xEF | .rst30 => 0xF7 | .rst38 => 0xFF | .ret => 0xC9 | .callA16 => 0xCD | .adcAD8 => 0xCE
  | .subAD8 => 0xD6 | .reti => 0xD9 | .sbcAD8 => 0xDE | .ldhMa8A => 0xE0 | .ldMcA => 0xE2 | .andAD8 => 0xE6
  | .addSpR8 => 0xE8 | .jpHl => 0xE9 | .ldMa16A => 0xEA | .xorAD8 => 0xEE | .ldhAMa8 => 0xF0 | .popAf => 0xF1
  | .ldAMc => 0xF2 | .di => 0xF3 | .orAD8 => 0xF6 | .ldHlSpR8 => 0xF8 | .ldSpHl => 0xF9 | .ldAMa16 => 0xFA
  | .ei => 0xFB | .cpAD8 => 0xFE | .cbRlcB => 0xCB00 | .cbRlcC => 0xCB01 | .cbRlcD => 0xCB02 | .cbRlcE => 0xCB03
  | .cbRlcH => 0xCB04 | .cbRlcL => 0xCB05 | .cbRlcA => 0xCB07 | .cbRlcMhl => 0xCB06 | .cbRrcB => 0xCB08
  | .cbRrcC => 0xCB09 | .cbRrcD => 0xCB0A | .cbRrcE => 0xCB0B | .cbRrcH => 0xCB0C | .cbRrcL => 0xCB0D
  | .cbRrcA => 0xCB0F | .cbRrcMhl => 0xCB0E | .cbRlB => 0xCB10 | .cbRlC => 0xCB11 | .cbRlD => 0xCB12
  | .cbRlE => 0xCB13 | .cbRlH => 0xCB14 | .cbRlL => 0xCB15 | .cbRlA => 0xCB17 | .cbRlMhl => 0xCB16 | .cbRrB => 0xCB18
  | .cbRrC => 0xCB19 | .cbRrD => 0xCB1A | .cbRrE => 0xCB1B | .cbRrH => 0xCB1C | .cbRrL => 0xCB1D | .cbRrA => 0xCB1F
  | .cbRrMhl => 0xCB1E | .cbSlaB => 0xCB20 | .cbSlaC => 0xCB21 | .cbSlaD => 0xCB22 | .cbSlaE => 0xCB23
  | .cbSlaH => 0xCB24 | .cbSlaL => 0xCB25 | .cbSlaA => 0xCB27 | .cbSlaMhl => 0xCB26 | .cbSraB => 0xCB28
  | .cbSraC => 0xCB29 | .cbSraD => 0xCB2A | .cbSraE => 0xCB2B | .cbSraH => 0xCB2C | .cbSraL => 0xCB2D
  | .cbSraA => 0xCB2F | .cbSraMhl => 0xCB2E | .cbSwapB => 0xCB30 | .cbSwapC => 0xCB31 | .cbSwapD => 0xCB32
  | .cbSwapE => 0xCB33 | .cbSwapH => 0xCB34 | .cbSwapL => 0xCB35 | .cbSwapA => 0xCB37 | .cbSwapMhl => 0xCB36
  | .cbSrlB => 0xCB38 | .cbSrlC => 0xCB39 | .cbSrlD => 0xCB3A | .cbSrlE => 0xCB3B | .cbSrlH => 0xCB3C
  | .cbSrlL => 0xCB3D | .cbSrlA => 0xCB3F | .cbSrlMhl => 0xCB3E | .bit0B => 0xCB40 | .bit0C => 0xCB41
  | .bit0D => 0xCB42 | .bit0E => 0xCB43 | .bit0H => 0xCB44 | .bit0L => 0xCB45 | .bit0A => 0xCB47 | .bit1B => 0xCB48
  | .bit1C => 0xCB49 | .bit1D => 0xCB4A | .bit1E => 0xCB4B | .bit1H => 0xCB4C | .bit1L => 0xCB4D | .bit1A => 0xCB4F
  | .bit2B => 0xCB50 | .bit2C => 0xCB51 | .bit2D => 0xCB52 | .bit2E => 0xCB53 | .bit2H => 0xCB54 | .bit2L => 0xCB55
  | .bit2A => 0xCB57 | .bit3B => 0xCB58 | .bit3C => 0xCB59 | .bit3D => 0xCB5A | .bit3E => 0xCB5B | .bit3H => 0xCB5C
  | .bit3L => 0xCB5D | .bit3A => 0xCB5F | .bit4B => 0xCB60 | .bit4C => 0xCB61 | .bit4D => 0xCB62 | .bit4E => 0xCB63
  | .bit4H => 0xCB64 | .bit4L => 0xCB65 | .bit4A => 0xCB67 | .bit5B => 0xCB68 | .bit5C => 0xCB69 | .bit5D => 0xCB6A
  | .bit5E => 0xCB6B | .bit5H => 0xCB6C | .bit5L => 0xCB6D | .bit5A => 0xCB6F | .bit6B => 0xCB70 | .bit6C => 0xCB71
  | .bit6D => 0xCB72 | .bit6E => 0xCB73 | .bit6H => 0xCB74 | .bit6L => 0xCB75 | .bit6A => 0xCB77 | .bit7B => 0xCB78
  | .bit7C => 0xCB79 | .bit7D => 0xCB7A | .bit7E => 0xCB7B | .bit7H => 0xCB7C | .bit7L => 0xCB7D | .bit7A => 0xCB7F
  | .bit0Mhl => 0xCB46 | .bit1Mhl => 0xCB4E | .bit2Mhl => 0xCB56 | .bit3Mhl => 0xCB5E | .bit4Mhl => 0xCB66
  | .bit5Mhl => 0xCB6E | .bit6Mhl => 0xCB76 | .bit7Mhl => 0xCB7E | .res0B => 0xCB80 | .res0C => 0xCB81
  | .res0D => 0xCB82 | .res0E => 0xCB83 | .res0H => 0xCB84 | .res0L => 0xCB85 | .res0A => 0xCB87 | .res1B => 0xCB88
  | .res1C => 0xCB89 | .res1D => 0xCB8A | .res1E => 0xCB8B | .res1H => 0xCB8C | .res1L => 0xCB8D | .res1A => 0xCB8F
  | .res2B => 0xCB90 | .res2C => 0xCB91 | .res2D => 0xCB92 | .res2E => 0xCB93 | .res2H => 0xCB94 | .res2L => 0xCB95
  | .res2A => 0xCB97 | .res3B => 0xCB98 | .res3C => 0xCB99 | .res3D => 0xCB9A | .res3E => 0xCB9B | .res3H => 0xCB9C
  | .res3L => 0xCB9D | .res3A => 0xCB9F | .res4B => 0xCBA0 | .res4C => 0xCBA1 | .res4D => 0xCBA2 | .res4E => 0xCBA3
  | .res4H => 0xCBA4 | .res4L => 0xCBA5 | .res4A => 0xCBA7 | .res5B => 0xCBA8 | .res5C => 0xCBA9 | .res5D => 0xCBAA
  | .res5E => 0xCBAB | .res5H => 0xCBAC | .res5L => 0xCBAD | .res5A => 0xCBAF | .res6B => 0xCBB0 | .res6C => 0xCBB1
  | .res6D => 0xCBB2 | .res6E => 0xCBB3 | .res6H => 0xCBB4 | .res6L => 0xCBB5 | .res6A => 0xCBB7 | .res7B => 0xCBB8
  | .res7C => 0xCBB9 | .res7D => 0xCBBA | .res7E => 0xCBBB | .res7H => 0xCBBC | .res7L => 0xCBBD | .res7A => 0xCBBF
  | .res0Mhl => 0xCB86 | .res1Mhl => 0xCB8E | .res2Mhl => 0xCB96 | .res3Mhl => 0xCB9E | .res4Mhl => 0xCBA6
  | .res5Mhl => 0xCBAE | .res6Mhl => 0xCBB6 | .res7Mhl => 0xCBBE | .set0B => 0xCBC0 | .set0C => 0xCBC1
  | .set0D => 0xCBC2 | .set0E => 0xCBC3 | .set0H => 0xCBC4 | .set0L => 0xCBC5 | .set0A => 0xCBC7 | .set1B => 0xCBC8
  | .set1C => 0xCBC9 | .set1D => 0xCBCA | .set1E => 0xCBCB | .set1H => 0xCBCC | .set1L => 0xCBCD | .set1A => 0xCBCF
  | .set2B => 0xCBD0 | .set2C => 0xCBD1 | .set2D => 0xCBD2 | .set2E => 0xCBD3 | .set2H => 0xCBD4 | .set2L => 0xCBD5
  | .set2A => 0xCBD7 | .set3B => 0xCBD8 | .set3C => 0xCBD9 | .set3D => 0xCBDA | .set3E => 0xCBDB | .set3H => 0xCBDC
  | .set3L => 0xCBDD | .set3A => 0xCBDF | .set4B => 0xCBE0 | .set4C => 0xCBE1 | .set4D => 0xCBE2 | .set4E => 0xCBE3
  | .set4H => 0xCBE4 | .set4L => 0xCBE5 | .set4A => 0xCBE7 | .set5B => 0xCBE8 | .set5C => 0xCBE9 | .set5D => 0xCBEA
  | .set5E => 0xCBEB | .set5H => 0xCBEC | .set5L => 0xCBED | .set5A => 0xCBEF | .set6B => 0xCBF0 | .set6C => 0xCBF1
  | .set6D => 0xCBF2 | .set6E => 0xCBF3 | .set6H => 0xCBF4 | .set6L => 0xCBF5 | .set6A => 0xCBF7 | .set7B => 0xCBF8
  | .set7C => 0xCBF9 | .set7D => 0xCBFA | .set7E => 0xCBFB | .set7H => 0xCBFC | .set7L => 0xCBFD | .set7A => 0xCBFF
  | .set0Mhl => 0xCBC6 | .set1Mhl => 0xCBCE | .set2Mhl => 0xCBD6 | .set3Mhl => 0xCBDE | .set4Mhl => 0xCBE6
  | .set5Mhl => 0xCBEE | .set6Mhl => 0xCBF6 | .set7Mhl => 0xCBFE

/-- The opcode byte, or the prefix 0xCB and the sub-opcode (R90). -/
def Instr.opcodeBytes (i : Instr) : List Byte :=
  if i.opcode < 0x100 then [BitVec.ofNat 8 i.opcode] else [BitVec.ofNat 8 (i.opcode / 0x100), BitVec.ofNat 8 i.opcode]

/-- The format of R90. -/
def Instr.format (i : Instr) : Format :=
  if 0x100 ≤ i.opcode then .cb else if i ∈ Instr.formatU3 then .u3 else if i ∈ Instr.formatU2 then .u2 else .u1

/-- The length in bytes (R90, R107). -/
def Instr.length (i : Instr) : Nat :=
  i.opcodeBytes.length + i.operandBytes

/-- The bytes of an instruction, in address order: opcode, then operands (R90). -/
def encode (c : CodedInstr) : List Byte :=
  c.instr.opcodeBytes ++ c.operands

/-- The bytes of a table word, in address order. spec/opcode_table.json numbers the bits of `byte0 ++ byte1` (R108): byte 0 is
bits 15..8 and byte 1 bits 7..0; a third byte is bits 23..16; a one-byte word is byte 0 alone (log entry 3). -/
def tableBytes (nbits w : Nat) : List Byte :=
  if nbits ≤ 8 ∧ w < 0x100 then [BitVec.ofNat 8 w, 0, 0]
  else [BitVec.ofNat 8 (w / 0x100), BitVec.ofNat 8 w, BitVec.ofNat 8 (w / 0x10000)]

/-- The instruction the decoder reads from the table's word `w` (log entry 3). -/
def decodeTableWord (nbits w : Nat) : Option Instr :=
  match decodeBytes (tableBytes nbits w) with
  | .ok r => some r.1.instr
  | .error _ => none

end Sys2Proof
end

