-- ==== Sys2Proof/Machine/Cycles.lean ====
section
/-! DEFINITION. The cost table `CYCLES` of spec/70_reset_and_hazards.md R380: the default, from the `cycles` and `cycles_taken`
columns of spec/opcode_table.json, laid out as the map of spec/30_encoding.md section 4, and what the parameter makes of it. -/

namespace Sys2Proof

/-- The `cycles` column by opcode byte (R380): row = high nibble; 0 where the table has no row (the prefix, R106). -/
def unprefixedCycles : List Nat :=
  [4, 12, 8, 8, 4, 4, 8, 4, 20, 8, 8, 8, 4, 4, 8, 4] ++
  [4, 12, 8, 8, 4, 4, 8, 4, 12, 8, 8, 8, 4, 4, 8, 4] ++
  [8, 12, 8, 8, 4, 4, 8, 4, 8, 8, 8, 8, 4, 4, 8, 4] ++
  [8, 12, 8, 8, 12, 12, 12, 4, 8, 8, 8, 8, 4, 4, 8, 4] ++
  [4, 4, 4, 4, 4, 4, 8, 4, 4, 4, 4, 4, 4, 4, 8, 4] ++
  [4, 4, 4, 4, 4, 4, 8, 4, 4, 4, 4, 4, 4, 4, 8, 4] ++
  [4, 4, 4, 4, 4, 4, 8, 4, 4, 4, 4, 4, 4, 4, 8, 4] ++
  [8, 8, 8, 8, 8, 8, 4, 8, 4, 4, 4, 4, 4, 4, 8, 4] ++
  [4, 4, 4, 4, 4, 4, 8, 4, 4, 4, 4, 4, 4, 4, 8, 4] ++
  [4, 4, 4, 4, 4, 4, 8, 4, 4, 4, 4, 4, 4, 4, 8, 4] ++
  [4, 4, 4, 4, 4, 4, 8, 4, 4, 4, 4, 4, 4, 4, 8, 4] ++
  [4, 4, 4, 4, 4, 4, 8, 4, 4, 4, 4, 4, 4, 4, 8, 4] ++
  [8, 12, 12, 16, 12, 16, 8, 16, 8, 16, 12, 0, 12, 24, 8, 16] ++
  [8, 12, 12, 0, 12, 16, 8, 16, 8, 16, 12, 0, 12, 0, 8, 16] ++
  [12, 12, 8, 0, 0, 16, 8, 16, 16, 4, 16, 0, 0, 0, 8, 16] ++
  [12, 12, 8, 4, 0, 16, 8, 16, 12, 8, 16, 4, 0, 0, 8, 16]

/-- The `cycles_taken` column (R380): the conditional transfers, when taken; every other instruction costs `cycles`. -/
def takenCycles : List (Instr × Nat) :=
  [(.jrNzR8, 12), (.jrZR8, 12), (.jrNcR8, 12), (.jrCR8, 12), (.retNz, 20), (.jpNzA16, 16), (.callNzA16, 24),
   (.retZ, 20), (.jpZA16, 16), (.callZA16, 24), (.retNc, 20), (.jpNcA16, 16), (.callNcA16, 24), (.retC, 20),
   (.jpCA16, 16), (.callCA16, 24)]

/-- The `cycles` column: a prefixed instruction costs 16 on the memory operand (selector 6) and 8 on a register (R224, R380). -/
def Instr.defaultCycles (i : Instr) : Nat :=
  if i.opcode < 0x100 then unprefixedCycles.getD i.opcode 0 else if i.opcode % 8 = 6 then 16 else 8

/-- The T-cycles when a conditional transfer is taken. -/
def Instr.defaultTaken (i : Instr) : Nat :=
  (takenCycles.lookup i).getD i.defaultCycles

namespace Config

/-- The parameter's entry for an instruction, if it has one. -/
def Params.costOverride (p : Params) (i : Instr) : Option CostOverride :=
  p.costs.find? (fun o => o.instr == i)

/-- The T-cycles of an instruction (R380): not taken, for a conditional transfer. -/
def Params.cost (p : Params) (i : Instr) : Nat :=
  match p.costOverride i with
  | some o => o.cycles
  | none => i.defaultCycles

/-- The T-cycles of a conditional transfer that is taken (R380). -/
def Params.costTaken (p : Params) (i : Instr) : Nat :=
  match p.costOverride i with
  | some o => o.taken
  | none => i.defaultTaken

/-- The constraints R380 puts on `CYCLES`: every value from 4 to 24, a prefixed instruction 8 on a register and 16 on the memory
operand, and 8 for the two instructions of DOC's scenario. -/
def Params.costsOk (p : Params) : Bool :=
  p.costs.all fun o =>
    (4 ≤ o.cycles && o.cycles ≤ 24 && 4 ≤ o.taken && o.taken ≤ 24)
      && (o.instr.opcode < 0x100 || (o.cycles == o.instr.defaultCycles && o.taken == o.instr.defaultTaken))
      && ((o.instr != .ldAD8 && o.instr != .addAD8) || (o.cycles == 8 && o.taken == 8))

end Config

end Sys2Proof
end

