-- ==== Sys2Proof/Machine/Bits.lean ====
section
/-! DEFINITION. Bit fields, sign extension and byte order (spec/00_scope.md R4 and section 7, spec/20_memory.md R70). -/

namespace Sys2Proof.Machine

/-- `w[15:8]`. -/
def hiByte (w : Word) : Byte :=
  w.extractLsb' 8 8

/-- `w[7:0]`. -/
def loByte (w : Word) : Byte :=
  w.extractLsb' 0 8

/-- `hi ++ lo`: the high byte first (R11, R70). -/
def mkWord (hi lo : Byte) : Word :=
  hi ++ lo

/-- `sext_16(v)`: bit 7 copied into bits 15..8. -/
def sext16 (v : Byte) : Word :=
  v.signExtend 16

/-- `zext_16(v)`. -/
def zext16 (v : Byte) : Word :=
  v.setWidth 16

/-- `0xFF00 + zext_16(v)`: an address in the page 0xFF00 (R98). -/
def highPage (v : Byte) : Word :=
  0xFF00 + zext16 v

end Sys2Proof.Machine
end

