-- ==== Sys2Proof/Machine/Flags.lean ====
section
/-! DEFINITION. The ALU: every result and every flag computation of spec/42_alu8.md, spec/43_alu16.md and
spec/44_rotate_shift_bit.md, the comparisons over unbounded naturals as the rules state them. -/

namespace Sys2Proof.Machine

/-- A result with the four flags (z, n, h, c). -/
structure AluOut where
  result : Byte
  z : Bool
  n : Bool
  h : Bool
  c : Bool
deriving DecidableEq, Repr

/-- `Add8(a, b, cin)` (R170). -/
def add8 (a b : Byte) (cin : Bool) : AluOut :=
  let sum := a.toNat + b.toNat + cin.toNat
  let r := BitVec.ofNat 8 sum
  ⟨r, r == 0, false, decide (a.toNat % 16 + b.toNat % 16 + cin.toNat > 0xF), decide (sum > 0xFF)⟩

/-- `Sub8(a, b, cin)` (R171): the borrows are widened, so `b[3:0] + cin` and `b + cin` never wrap. -/
def sub8 (a b : Byte) (cin : Bool) : AluOut :=
  let r := a - b - BitVec.ofNat 8 cin.toNat
  ⟨r, r == 0, true, decide (a.toNat % 16 < b.toNat % 16 + cin.toNat), decide (a.toNat < b.toNat + cin.toNat)⟩

/-- AND (R184): half-carry is set. -/
def and8 (a b : Byte) : AluOut :=
  ⟨a &&& b, (a &&& b) == 0, false, true, false⟩

/-- XOR (R187). -/
def xor8 (a b : Byte) : AluOut :=
  ⟨a ^^^ b, (a ^^^ b) == 0, false, false, false⟩

/-- OR (R190). -/
def or8 (a b : Byte) : AluOut :=
  ⟨a ||| b, (a ||| b) == 0, false, false, false⟩

/-- The accumulator operation of R99 on A, its operand and the old carry (R172 to R195). CP keeps A (R193). -/
def aluEval (op : AluOp) (a b : Byte) (c : Bool) : AluOut :=
  match op with
  | .add => add8 a b false
  | .adc => add8 a b c
  | .sub => sub8 a b false
  | .sbc => sub8 a b c
  | .and => and8 a b
  | .xor => xor8 a b
  | .or => or8 a b
  | .cp => { sub8 a b false with result := a }

/-- INC (R196): z and h from the old value; the carry `c` is kept. -/
def inc8 (v : Byte) (c : Bool) : AluOut :=
  ⟨v + 1, v == 0xFF, false, v.toNat % 16 == 0xF, c⟩

/-- DEC (R198): z and h from the old value; the carry `c` is kept. -/
def dec8 (v : Byte) (c : Bool) : AluOut :=
  ⟨v - 1, v == 0x01, true, v.toNat % 16 == 0x0, c⟩

/-- The correction DAA adds or subtracts (R200): both tests look at A before the instruction. -/
def daaCorrection (a : Byte) (n h c : Bool) : Byte :=
  let low : Byte := if h || (!n && decide (a.toNat % 16 > 9)) then 0x06 else 0x00
  let high : Byte := if c || (!n && decide (a.toNat > 0x99)) then 0x60 else 0x00
  low + high

/-- DAA (R200): n is kept, h cleared, c never cleared. -/
def daa8 (a : Byte) (n h c : Bool) : AluOut :=
  let corr := daaCorrection a n h c
  let r := if n then a - corr else a + corr
  ⟨r, r == 0, n, false, c || (!n && decide (a.toNat > 0x99))⟩

/-- A result and the flags h and c of 16-bit addition. -/
structure AddOut where
  result : Word
  h : Bool
  c : Bool
deriving DecidableEq, Repr

/-- ADD HL,rr (R210): carries out of bit 11 and bit 15. -/
def add16 (a b : Word) : AddOut :=
  ⟨a + b, decide (a.toNat % 0x1000 + b.toNat % 0x1000 > 0x0FFF), decide (a.toNat + b.toNat > 0xFFFF)⟩

/-- `SPOffset(sp, e)` (R214): signed result, unsigned flags. -/
def spOffset (sp : Word) (e : Byte) : AddOut :=
  ⟨sp + sext16 e, decide (sp.toNat % 16 + e.toNat % 16 > 0xF), decide (sp.toNat % 256 + e.toNat > 0xFF)⟩

/-- The result and the carry of a rotate, a shift or SWAP (R220 to R240), with the old carry `c`. -/
def rotBits (op : RotOp) (v : Byte) (c : Bool) : Byte × Bool :=
  match op with
  | .rlc => (v.extractLsb' 0 7 ++ v.extractLsb' 7 1, v.getLsbD 7)
  | .rrc => (v.extractLsb' 0 1 ++ v.extractLsb' 1 7, v.getLsbD 0)
  | .rl => (v.extractLsb' 0 7 ++ BitVec.ofBool c, v.getLsbD 7)
  | .rr => (BitVec.ofBool c ++ v.extractLsb' 1 7, v.getLsbD 0)
  | .sla => (v.extractLsb' 0 7 ++ 0#1, v.getLsbD 7)
  | .sra => (v.extractLsb' 7 1 ++ v.extractLsb' 1 7, v.getLsbD 0)
  | .swap => (v.extractLsb' 0 4 ++ v.extractLsb' 4 4, false)
  | .srl => (0#1 ++ v.extractLsb' 1 7, v.getLsbD 0)

/-- A prefixed rotate, shift or SWAP with its flags (R225 to R240): z from the result. -/
def rotEval (op : RotOp) (v : Byte) (c : Bool) : AluOut :=
  ⟨(rotBits op v c).1, (rotBits op v c).1 == 0, false, false, (rotBits op v c).2⟩

/-- RES b (R243, R244). -/
def resBit (b : Fin 8) (v : Byte) : Byte :=
  v &&& ~~~(1#8 <<< b.val)

/-- SET b (R245, R246). -/
def setBit (b : Fin 8) (v : Byte) : Byte :=
  v ||| (1#8 <<< b.val)

end Sys2Proof.Machine
end

