-- ==== Sys2Proof/Machine/State.lean ====
section
/-! DEFINITION. The state of the machine as plain data: everything spec/10_state.md R10 to R28 names, the parameters of R2, and
four fields of the model's own (the parameters, the last step's T-cycles, the PPU collaborator's history with its clock, and
the host's inputs to come; log entries 4, 5, 7, 8). Also the reasons a step stops, and the state after reset
(spec/70_reset_and_hazards.md R360 to R367). -/

namespace Sys2Proof.Machine

/-- Why the machine is fatal: the spec's two reasons (R330). An instruction or a fetch that raises one gives a NEXT state that
holds it (`State.fatal`); the step after that state, which R310 does not define, is the fault of the same name. -/
inductive Fault where
  /-- Raised by step S4 on one of the 11 unassigned first bytes (R276, R330), with the byte; the fault is the answer of `step`
  in the fatal state. Safe: the machine the spec describes has no further step either. -/
  | unassignedOpcode (op : Byte)
  /-- Raised by STOP when `STOP_BEHAVIOUR` is fatal (R274, R330); the fault is the answer of `step` in the fatal state. Safe:
  as above. -/
  | stopUnmodelled
deriving DecidableEq, Repr

/-- Why an instruction has no meaning. -/
inductive Refusal where
  /-- Answered by an arm of `exec` that gives its instruction no meaning yet. Safe. No arm answers it now. -/
  | notModelled (mnemonic : String)
deriving DecidableEq, Repr

/-- The five interrupt sources (R301), highest priority first. -/
inductive Source where
  | vblank | lcdStatus | timer | serial | joypad
deriving DecidableEq, Repr

/-- What the host can do between two system steps that changes the block (R321, R322). -/
inductive HostAction where
  /-- `Request(src)` from outside. -/
  | request (src : Source)
  /-- `clear_output()`. -/
  | clearOutput
deriving DecidableEq, Repr

/-- The bytes the bus itself stores (R28), in ONE canonical form: by rising cell number, no entry equal to what an unlisted
cell reads as. A cell's number is its bus address; the echo range has no cells of its own (R57). -/
abbrev Memory := List Host.Cell

/-- The whole state of the block. -/
structure State where
  /-- A, the accumulator (R10). -/
  a : Byte
  /-- B (R10). -/
  b : Byte
  /-- C, the register (R10). -/
  c : Byte
  /-- D (R10). -/
  d : Byte
  /-- E (R10). -/
  e : Byte
  /-- H (R10). -/
  h : Byte
  /-- L (R10). -/
  l : Byte
  /-- z, the zero flag (R12). -/
  zf : Bool
  /-- n, the subtract flag (R12). -/
  nf : Bool
  /-- h, the half-carry flag (R12). -/
  hf : Bool
  /-- c, the carry flag (R12). -/
  cf : Bool
  /-- SP (R15). -/
  sp : Word
  /-- PC (R16). -/
  pc : Word
  /-- IME, the interrupt master enable (R17). -/
  ime : Bool
  /-- `halted` (R18). -/
  halted : Bool
  /-- `halt_bug` (R19). -/
  haltBug : Bool
  /-- `ei_pending` (R20). -/
  eiPending : Bool
  /-- `fatal` (R21, R330): `some r` is the bit 1, with the reason R330 records. -/
  fatal : Option Fault
  /-- IF, its five stored bits (R22). -/
  ifBits : BitVec 5
  /-- IE, eight stored bits (R23). -/
  ie : Byte
  /-- The timer's free-running counter (R24). -/
  counter : BitVec 16
  /-- TIMA (R24). -/
  tima : Byte
  /-- TMA (R24). -/
  tma : Byte
  /-- TAC, its three stored bits (R24). -/
  tac : BitVec 3
  /-- `prev_bit` (R24). -/
  prevBit : Bool
  /-- `reload`: none, or the ticks left, 1 to 4 (R24). -/
  reload : Option Nat
  /-- SB (R26). -/
  sb : Byte
  /-- SC (R26). -/
  sc : Byte
  /-- `out`, the serial output queue, oldest first (R26). -/
  out : List Byte
  /-- ROM, external RAM, work RAM, OAM and high RAM (R28). -/
  mem : Memory
  /-- The PPU collaborator's state, as the history of its calls, newest first (R27, R62; log entry 8). -/
  ppu : List Config.PpuEvent
  /-- MODEL'S OWN: T-cycles since reset, for the collaborator's answers only (log entry 8). -/
  clock : Nat
  /-- MODEL'S OWN: the T-cycles the last `Step()` returned (R29, R310, R320; log entry 5). -/
  cycles : Nat
  /-- MODEL'S OWN: what the host does before the steps to come, one list a step (R321, R322; log entry 7). -/
  host : List (List HostAction)
  /-- MODEL'S OWN: the parameters of R2 (log entry 4). -/
  params : Config.Params
deriving DecidableEq, Repr

/-- The state right after reset with every parameter at its default (R360 to R366): an empty ROM image, which reads as zeros
(R364), no host input and no PPU call. -/
def State.reset : State where
  a := 0x01
  b := 0x00
  c := 0x13
  d := 0x00
  e := 0xD8
  h := 0x01
  l := 0x4D
  zf := true
  nf := false
  hf := true
  cf := true
  sp := 0xFFFE
  pc := 0x0100
  ime := false
  halted := false
  haltBug := false
  eiPending := false
  fatal := none
  ifBits := 0
  ie := 0x00
  counter := 0x0000
  tima := 0x00
  tma := 0x00
  tac := 0
  prevBit := false
  reload := none
  sb := 0x00
  sc := 0x00
  out := []
  mem := []
  ppu := []
  clock := 0
  cycles := 0
  host := []
  params := Config.Params.mk .fatal false 0 []

end Sys2Proof.Machine
end

