-- ==== Sys2Proof/Machine/Interrupts.lean ====
section
/-! DEFINITION. The interrupt controller (spec/60_exceptions.md R300 to R306): two registers and four operations. -/

namespace Sys2Proof.Machine

/-- `bit(src)` (R301). -/
def Source.bit : Source → Nat
  | .vblank => 0
  | .lcdStatus => 1
  | .timer => 2
  | .serial => 3
  | .joypad => 4

/-- `vector(src)` (R301). -/
def Source.vector : Source → Word
  | .vblank => 0x0040
  | .lcdStatus => 0x0048
  | .timer => 0x0050
  | .serial => 0x0058
  | .joypad => 0x0060

/-- `Request(src)` (R302). -/
def State.request (s : State) (src : Source) : State :=
  { s with ifBits := s.ifBits ||| (1#5 <<< src.bit) }

/-- `IF[4:0] & IE[4:0]` (R303, R305). -/
def State.pendingBits (s : State) : BitVec 5 :=
  s.ifBits &&& s.ie.setWidth 5

/-- `AnyPending()` (R305): it does not depend on IME. -/
def State.anyPending (s : State) : Bool :=
  s.pendingBits != 0#5

/-- `GetPending()` (R303): the pending source with the lowest bit number. -/
def State.getPending (s : State) : Option Source :=
  if s.pendingBits.getLsbD 0 then some .vblank
  else if s.pendingBits.getLsbD 1 then some .lcdStatus
  else if s.pendingBits.getLsbD 2 then some .timer
  else if s.pendingBits.getLsbD 3 then some .serial
  else if s.pendingBits.getLsbD 4 then some .joypad
  else none

/-- The state part of `Service(src)` (R304): that IF bit is cleared; its result is `src.vector`. -/
def State.service (s : State) (src : Source) : State :=
  { s with ifBits := s.ifBits &&& ~~~(1#5 <<< src.bit) }

end Sys2Proof.Machine
end

