-- ==== Sys2Proof/Machine/Memory.lean ====
section
/-! DEFINITION. The bus's own storage (spec/10_state.md R28) as a list of cells in one canonical form, and the three
operations over it. -/

namespace Sys2Proof.Machine

/-- What a cell that is not listed reads as: 0x00 (R364: ROM is zero-padded, and all RAM is 0x00 after reset). -/
def Memory.unlisted : Byte := 0x00

/-- The canonical form: cell numbers strictly rising, and no entry equal to what an unlisted cell reads as. -/
abbrev Memory.wf (m : Memory) : Prop :=
  m.Pairwise (fun x y => x.1 < y.1) ∧ ∀ x ∈ m, x.2 ≠ Memory.unlisted

/-- The byte in cell `k`. -/
def Memory.readByte : Memory → Nat → Byte
  | [], _ => Memory.unlisted
  | (a, v) :: rest, k => if a = k then v else Memory.readByte rest k

/-- Store `v` in cell `k`, keeping the canonical form. -/
def Memory.writeByte : Memory → Nat → Byte → Memory
  | [], k, v => if v = Memory.unlisted then [] else [(k, v)]
  | (a, w) :: rest, k, v =>
    if k < a then (if v = Memory.unlisted then (a, w) :: rest else (k, v) :: (a, w) :: rest)
    else if k = a then (if v = Memory.unlisted then rest else (k, v) :: rest)
    else (a, w) :: Memory.writeByte rest k v

end Sys2Proof.Machine
end

