-- ==== Sys2Proof/Machine/Timer.lean ====
section
/-! DEFINITION. The timer (spec/60_exceptions.md R340 to R348). -/

namespace Sys2Proof.Machine

/-- The bit of the counter that a select code watches (R341). -/
def selectedIndex (tac : BitVec 3) : Nat :=
  match (tac.extractLsb' 0 2).toNat with
  | 0 => 9
  | 1 => 3
  | 2 => 5
  | _ => 7

/-- `SelectedBit()` (R341): 0 when TAC bit 2, the enable, is 0. -/
def State.selectedBit (s : State) : Bool :=
  s.tac.getLsbD 2 && s.counter.getLsbD (selectedIndex s.tac)

/-- `IncrementTima()` (R342): an overflow arms the reload, 4 ticks ahead. -/
def State.incrementTima (s : State) : State :=
  if s.tima = 0xFF then { s with tima := 0x00, reload := some 4 } else { s with tima := s.tima + 1 }

/-- `EdgeCheck()` (R342). -/
def State.edgeCheck (s : State) : State :=
  let newBit := s.selectedBit
  let s' := if s.prevBit && !newBit then s.incrementTima else s
  { s' with prevBit := newBit }

/-- Write to DIV (R343). -/
def State.writeDiv (s : State) : State :=
  State.edgeCheck { s with counter := 0x0000 }

/-- Write to TIMA (R344): the reload is cancelled. -/
def State.writeTima (s : State) (v : Byte) : State :=
  { s with tima := v, reload := none }

/-- Write to TMA (R345). -/
def State.writeTma (s : State) (v : Byte) : State :=
  { s with tma := v }

/-- Write to TAC (R346). -/
def State.writeTac (s : State) (v : Byte) : State :=
  State.edgeCheck { s with tac := v.setWidth 3 }

/-- Part (2) of `TimerTick()` (R340): the reload countdown; whether it fired. -/
def State.reloadTick (s : State) : Bool × State :=
  match s.reload with
  | none => (false, s)
  | some k => if k - 1 = 0 then (true, { s with tima := s.tma, reload := none }) else (false, { s with reload := some (k - 1) })

/-- `TimerTick()` (R340): whether the Timer interrupt is requested, and the state. -/
def State.timerTick (s : State) : Bool × State :=
  let r := State.reloadTick { s with counter := s.counter + 1 }
  (r.1, r.2.edgeCheck)

end Sys2Proof.Machine
end

