-- ==== Sys2Proof/Machine/Bus.lean ====
section
/-! DEFINITION. The bus: the address decoder and the two operations of spec/20_memory.md R50 to R65, total on every address.
A read answers the byte and the state, since a read of the PPU collaborator is a call the collaborator sees (R51, R62). -/

namespace Sys2Proof.Machine

/-- What an address selects (R51, R52): one partition for reads and writes. -/
inductive BusTarget where
  /-- ROM (R53), with the cell. -/
  | rom (cell : Nat)
  /-- External RAM, work RAM or its echo, OAM or high RAM (R55 to R58, R65), with the cell. -/
  | ram (cell : Nat)
  /-- VRAM, with the offset (R54). -/
  | vram (offset : BitVec 13)
  /-- An LCD register, at its bus address (R62). -/
  | lcd
  /-- Nothing (R59, R64). -/
  | unmapped
  | sb | sc | div | tima | tma | tac | ifReg | ie
deriving DecidableEq, Repr

/-- The registers of the window 0xFF00 to 0xFF7F, by the low byte of the address (R51, R64). -/
def ioTarget (low : Nat) : BusTarget :=
  match low with
  | 0x01 => .sb
  | 0x02 => .sc
  | 0x04 => .div
  | 0x05 => .tima
  | 0x06 => .tma
  | 0x07 => .tac
  | 0x0F => .ifReg
  | _ => if 0x40 ≤ low ∧ low ≤ 0x4B then .lcd else .unmapped

/-- The page 0xFF00 to 0xFFFF: the window, high RAM (R65) and IE (R63). -/
def highTarget (n : Nat) : BusTarget :=
  if n < 0xFF80 then ioTarget (n - 0xFF00) else if n < 0xFFFF then .ram n else .ie

/-- The regions below 0xFF00 (R53 to R59); the echo of work RAM is 0x2000 above it (R57). -/
def lowTarget (n : Nat) : BusTarget :=
  if n < 0x8000 then .rom n
  else if n < 0xA000 then .vram (BitVec.ofNat 13 (n - 0x8000))
  else if n < 0xE000 then .ram n
  else if n < 0xFE00 then .ram (n - 0x2000)
  else if n < 0xFEA0 then .ram n
  else .unmapped

/-- The address decoder (R51, R52): total, each address in exactly one row. -/
def busTarget (addr : Word) : BusTarget :=
  if addr.toNat < 0xFF00 then lowTarget addr.toNat else highTarget addr.toNat

/-- Tell the PPU collaborator of a call (R62). -/
def State.ppuCall (s : State) (call : Config.PpuCall) : State :=
  { s with ppu := ⟨s.clock, call⟩ :: s.ppu }

/-- `MemRead(addr, 1)` (R51): the byte, and the state. -/
def State.read (s : State) (addr : Word) : Byte × State :=
  match busTarget addr with
  | .rom cell => (s.mem.readByte cell, s)
  | .ram cell => (s.mem.readByte cell, s)
  | .vram offset => (Config.ppuReadVram s.ppu s.clock offset, s.ppuCall (.readVram offset))
  | .lcd => (Config.ppuReadRegister s.ppu s.clock addr, s.ppuCall (.readRegister addr))
  | .unmapped => (0xFF, s)
  | .sb => (s.sb, s)
  | .sc => (s.sc, s)
  | .div => (s.counter.extractLsb' 8 8, s)
  | .tima => (s.tima, s)
  | .tma => (s.tma, s)
  | .tac => (s.params.tacReadFill ++ s.tac, s)
  | .ifReg => (0b111#3 ++ s.ifBits, s)
  | .ie => (s.ie, s)

/-- The serial control write (R60): bit 7 sends `sb` at once and reads back 0. -/
def State.writeSc (s : State) (v : Byte) : State :=
  if v.getLsbD 7 then
    let s' := { s with out := s.out ++ [s.sb], sc := v &&& 0x7F }
    if s.params.serialIrqWired then s'.request .serial else s'
  else { s with sc := v }

/-- `MemWrite(addr, 1, v)` (R52). -/
def State.write (s : State) (addr : Word) (v : Byte) : State :=
  match busTarget addr with
  | .rom _ => s
  | .ram cell => { s with mem := s.mem.writeByte cell v }
  | .vram offset => s.ppuCall (.writeVram offset v)
  | .lcd => s.ppuCall (.writeRegister addr v)
  | .unmapped => s
  | .sb => { s with sb := v }
  | .sc => s.writeSc v
  | .div => s.writeDiv
  | .tima => s.writeTima v
  | .tma => s.writeTma v
  | .tac => s.writeTac v
  | .ifReg => { s with ifBits := v.setWidth 5 }
  | .ie => { s with ie := v }

/-- `MemRead(addr, 2)` (R70): low byte at `addr`, then high byte at `addr + 1`. -/
def State.read16 (s : State) (addr : Word) : Word × State :=
  let lo := s.read addr
  let hi := lo.2.read (addr + 1)
  (mkWord hi.1 lo.1, hi.2)

/-- `MemWrite(addr, 2, v)` (R70): low byte at `addr`, then high byte at `addr + 1`. -/
def State.write16 (s : State) (addr : Word) (v : Word) : State :=
  (s.write addr (loByte v)).write (addr + 1) (hiByte v)

end Sys2Proof.Machine
end

