-- ==== Sys2Proof/Machine/Operands.lean ====
section
/-! DEFINITION. Every operand form: the registers and their pairs (spec/10_state.md R10 to R12), the operand selectors
(spec/30_encoding.md R95, R96), the branch conditions (R97) and the immediates (R98). -/

namespace Sys2Proof.Machine

/-- Read a general register (R95). -/
def State.getReg (s : State) : Reg8 → Byte
  | .b => s.b
  | .c => s.c
  | .d => s.d
  | .e => s.e
  | .h => s.h
  | .l => s.l
  | .a => s.a

/-- Write a general register (R95). -/
def State.setReg (s : State) (r : Reg8) (v : Byte) : State :=
  match r with
  | .b => { s with b := v }
  | .c => { s with c := v }
  | .d => { s with d := v }
  | .e => { s with e := v }
  | .h => { s with h := v }
  | .l => { s with l := v }
  | .a => { s with a := v }

/-- BC (R11): first letter high. -/
def State.bc (s : State) : Word := mkWord s.b s.c

/-- DE (R11). -/
def State.de (s : State) : Word := mkWord s.d s.e

/-- HL (R11). -/
def State.hl (s : State) : Word := mkWord s.h s.l

/-- F (R12): the four flags above a nibble of zeros. -/
def State.f (s : State) : Byte :=
  BitVec.ofBool s.zf ++ BitVec.ofBool s.nf ++ BitVec.ofBool s.hf ++ BitVec.ofBool s.cf ++ 0#4

/-- AF (R11). -/
def State.af (s : State) : Word := mkWord s.a s.f

/-- Write HL: both halves (R11). -/
def State.setHl (s : State) (v : Word) : State :=
  { s with h := hiByte v, l := loByte v }

/-- Write the four flags. -/
def State.setFlags (s : State) (z n h c : Bool) : State :=
  { s with zf := z, nf := n, hf := h, cf := c }

/-- Write AF: A and the four flags; the low nibble is dropped (R11, R158). -/
def State.setAf (s : State) (v : Word) : State :=
  { s with a := hiByte v, zf := v.getLsbD 7, nf := v.getLsbD 6, hf := v.getLsbD 5, cf := v.getLsbD 4 }

/-- Read `rp[p]` (R96). -/
def State.getReg16 (s : State) : Reg16 → Word
  | .bc => s.bc
  | .de => s.de
  | .hl => s.hl
  | .sp => s.sp

/-- Write `rp[p]` (R96, R11). -/
def State.setReg16 (s : State) (r : Reg16) (v : Word) : State :=
  match r with
  | .bc => { s with b := hiByte v, c := loByte v }
  | .de => { s with d := hiByte v, e := loByte v }
  | .hl => s.setHl v
  | .sp => { s with sp := v }

/-- Read `rp2[p]` (R96). -/
def State.getStk16 (s : State) : Stk16 → Word
  | .bc => s.bc
  | .de => s.de
  | .hl => s.hl
  | .af => s.af

/-- Write `rp2[p]` (R96, R11). -/
def State.setStk16 (s : State) (r : Stk16) (v : Word) : State :=
  match r with
  | .bc => { s with b := hiByte v, c := loByte v }
  | .de => { s with d := hiByte v, e := loByte v }
  | .hl => s.setHl v
  | .af => s.setAf v

/-- `Cond(cc)` (R97). -/
def State.cond (s : State) : Cond → Bool
  | .nz => !s.zf
  | .z => s.zf
  | .nc => !s.cf
  | .c => s.cf

/-- `Imm8()` (R98): the byte at `pc + 1`. -/
def State.imm8 (s : State) : Byte × State :=
  s.read (s.pc + 1)

/-- `Imm16()` (R98): the bytes at `pc + 1` (low) and `pc + 2` (high). -/
def State.imm16 (s : State) : Word × State :=
  s.read16 (s.pc + 1)

/-- Read `x[i]` (R95). -/
def State.readOpnd (s : State) : Opnd → Byte × State
  | .reg r => (s.getReg r, s)
  | .mhl => s.read s.hl

/-- Write `x[i]` (R95). -/
def State.writeOpnd (s : State) (x : Opnd) (v : Byte) : State :=
  match x with
  | .reg r => s.setReg r v
  | .mhl => s.write s.hl v

/-- Read the source of an 8-bit load or of an accumulator instruction: `x[i]` or d8 (R95, R98). -/
def State.readSrc (s : State) : Src8 → Byte × State
  | .reg r => (s.getReg r, s)
  | .mhl => s.read s.hl
  | .d8 => s.imm8

/-- The length of an instruction with one opcode byte and this source (R90). -/
def srcLength : Src8 → Word
  | .reg _ => 1
  | .mhl => 1
  | .d8 => 2

end Sys2Proof.Machine
end

