-- ==== Sys2Proof/Machine/Ops.lean ====
section
/-! DEFINITION. The operations the instructions share: the end of an instruction, the stack (spec/41_load16_stack.md R150,
R151), taking an interrupt and returning from one (spec/60_exceptions.md R312, R332, R333; spec/45_control_flow.md R259), and
the fatal condition (R330). -/

namespace Sys2Proof.Machine

/-- What a meaning answers. -/
abbrev Out := Host.Outcome State Fault Refusal

/-- `pc <- pc' ; cycles <- k`: the end of every instruction (spec/00_scope.md section 7; S8, R318). -/
def State.finish (s : State) (pc' : Word) (k : Nat) : State :=
  { s with pc := pc', cycles := k }

/-- Write the flags of an ALU result. -/
def State.putFlags (s : State) (o : AluOut) : State :=
  s.setFlags o.z o.n o.h o.c

/-- `Push16(v)` (R150): high byte first, SP decremented before each write. -/
def State.push16 (s : State) (v : Word) : State :=
  let s1 := State.write { s with sp := s.sp - 1 } (s.sp - 1) (hiByte v)
  State.write { s1 with sp := s1.sp - 1 } (s1.sp - 1) (loByte v)

/-- `Pop16()` (R151): low byte first. -/
def State.pop16 (s : State) : Word × State :=
  let lo := s.read s.sp
  let s1 := { lo.2 with sp := lo.2.sp + 1 }
  let hi := s1.read s1.sp
  (mkWord hi.1 lo.1, { hi.2 with sp := hi.2.sp + 1 })

/-- Trap entry (S2, R312, R332) for a source already chosen: IME and `ei_pending` cleared, PC pushed, the IF bit cleared, PC at
the vector, 20 T-cycles. -/
def State.takeInterrupt (s : State) (src : Source) : State :=
  let s1 := State.push16 { s with ime := false, eiPending := false } s.pc
  (s1.service src).finish src.vector 20

/-- Trap return (R259, R333): PC popped, IME set at once. -/
def State.returnFromInterrupt (s : State) (k : Nat) : State :=
  let r := s.pop16
  State.finish { r.2 with ime := true } r.1 k

/-- `raise Fatal(reason)` (R330): the step ends without a cycle count, written 0 (log entries 5, 6). -/
def State.raiseFatal (s : State) (reason : Fault) : State :=
  { s with fatal := some reason, cycles := 0 }

end Sys2Proof.Machine
end

