-- ==== Sys2Proof/Machine/Alu16.lean ====
section
/-! DEFINITION. The 16-bit arithmetic instructions (spec/43_alu16.md R210 to R213). -/

namespace Sys2Proof.Machine

/-- ADD HL,rr (R210): z kept. -/
def addToHl (i : Instr) (r : Reg16) (s : State) : Out :=
  let o := add16 s.hl (s.getReg16 r)
  .next (((s.setHl o.result).setFlags s.zf false o.h o.c).finish (s.pc + 1) (s.params.cost i))

/-- INC rr (R211) and DEC rr (R212): no flag. -/
def stepReg16 (i : Instr) (r : Reg16) (delta : Word) (s : State) : Out :=
  .next ((s.setReg16 r (s.getReg16 r + delta)).finish (s.pc + 1) (s.params.cost i))

/-- ADD SP,r8 (R213, R214): z and n cleared. -/
def addToSp (i : Instr) (s : State) : Out :=
  let e := s.imm8
  let o := spOffset s.sp e.1
  .next ((State.setFlags { e.2 with sp := o.result } false false o.h o.c).finish (s.pc + 2) (s.params.cost i))

/-- R211: INC BC. -/
def execIncBc (s : State) : Out :=
  stepReg16 .incBc .bc 1 s

/-- R210: ADD HL,BC. -/
def execAddHlBc (s : State) : Out :=
  addToHl .addHlBc .bc s

/-- R212: DEC BC. -/
def execDecBc (s : State) : Out :=
  stepReg16 .decBc .bc (-1) s

/-- R211: INC DE. -/
def execIncDe (s : State) : Out :=
  stepReg16 .incDe .de 1 s

/-- R210: ADD HL,DE. -/
def execAddHlDe (s : State) : Out :=
  addToHl .addHlDe .de s

/-- R212: DEC DE. -/
def execDecDe (s : State) : Out :=
  stepReg16 .decDe .de (-1) s

/-- R211: INC HL. -/
def execIncHl (s : State) : Out :=
  stepReg16 .incHl .hl 1 s

/-- R210: ADD HL,HL. -/
def execAddHlHl (s : State) : Out :=
  addToHl .addHlHl .hl s

/-- R212: DEC HL. -/
def execDecHl (s : State) : Out :=
  stepReg16 .decHl .hl (-1) s

/-- R211: INC SP. -/
def execIncSp (s : State) : Out :=
  stepReg16 .incSp .sp 1 s

/-- R210: ADD HL,SP. -/
def execAddHlSp (s : State) : Out :=
  addToHl .addHlSp .sp s

/-- R212: DEC SP. -/
def execDecSp (s : State) : Out :=
  stepReg16 .decSp .sp (-1) s

/-- R213: ADD SP,r8. -/
def execAddSpR8 (s : State) : Out :=
  addToSp .addSpR8 s

end Sys2Proof.Machine
end

