-- ==== Sys2Proof/Machine/Alu8.lean ====
section
/-! DEFINITION. The 8-bit arithmetic and logic instructions (spec/42_alu8.md R172 to R203). -/

namespace Sys2Proof.Machine

/-- An accumulator operation on A and a register, the cell at HL or d8 (R172 to R195). -/
def aluA (i : Instr) (op : AluOp) (src : Src8) (s : State) : Out :=
  let v := s.readSrc src
  let o := aluEval op s.a v.1 s.cf
  .next (((v.2.setReg .a o.result).putFlags o).finish (s.pc + srcLength src) (s.params.cost i))

/-- INC x (R196, R197): one read, then one write; c kept. -/
def incOpnd (i : Instr) (x : Opnd) (s : State) : Out :=
  let v := s.readOpnd x
  let o := inc8 v.1 s.cf
  .next (((v.2.writeOpnd x o.result).putFlags o).finish (s.pc + 1) (s.params.cost i))

/-- DEC x (R198, R199): one read, then one write; c kept. -/
def decOpnd (i : Instr) (x : Opnd) (s : State) : Out :=
  let v := s.readOpnd x
  let o := dec8 v.1 s.cf
  .next (((v.2.writeOpnd x o.result).putFlags o).finish (s.pc + 1) (s.params.cost i))

/-- DAA (R200). -/
def daaA (i : Instr) (s : State) : Out :=
  let o := daa8 s.a s.nf s.hf s.cf
  .next (((s.setReg .a o.result).putFlags o).finish (s.pc + 1) (s.params.cost i))

/-- CPL (R201): z and c kept. -/
def complementA (i : Instr) (s : State) : Out :=
  .next (((s.setReg .a (~~~s.a)).setFlags s.zf true true s.cf).finish (s.pc + 1) (s.params.cost i))

/-- SCF (R202) and CCF (R203): n and h cleared, z kept. -/
def putCarry (i : Instr) (carry : Bool) (s : State) : Out :=
  .next ((s.setFlags s.zf false false carry).finish (s.pc + 1) (s.params.cost i))

/-- R196: INC B. -/
def execIncB (s : State) : Out :=
  incOpnd .incB (.reg .b) s

/-- R198: DEC B. -/
def execDecB (s : State) : Out :=
  decOpnd .decB (.reg .b) s

/-- R196: INC C. -/
def execIncC (s : State) : Out :=
  incOpnd .incC (.reg .c) s

/-- R198: DEC C. -/
def execDecC (s : State) : Out :=
  decOpnd .decC (.reg .c) s

/-- R196: INC D. -/
def execIncD (s : State) : Out :=
  incOpnd .incD (.reg .d) s

/-- R198: DEC D. -/
def execDecD (s : State) : Out :=
  decOpnd .decD (.reg .d) s

/-- R196: INC E. -/
def execIncE (s : State) : Out :=
  incOpnd .incE (.reg .e) s

/-- R198: DEC E. -/
def execDecE (s : State) : Out :=
  decOpnd .decE (.reg .e) s

/-- R196: INC H. -/
def execIncH (s : State) : Out :=
  incOpnd .incH (.reg .h) s

/-- R198: DEC H. -/
def execDecH (s : State) : Out :=
  decOpnd .decH (.reg .h) s

/-- R200: DAA. -/
def execDaa (s : State) : Out :=
  daaA .daa s

/-- R196: INC L. -/
def execIncL (s : State) : Out :=
  incOpnd .incL (.reg .l) s

/-- R198: DEC L. -/
def execDecL (s : State) : Out :=
  decOpnd .decL (.reg .l) s

/-- R201: CPL. -/
def execCpl (s : State) : Out :=
  complementA .cpl s

/-- R197: INC (HL). -/
def execIncMhl (s : State) : Out :=
  incOpnd .incMhl .mhl s

/-- R199: DEC (HL). -/
def execDecMhl (s : State) : Out :=
  decOpnd .decMhl .mhl s

/-- R202: SCF. -/
def execScf (s : State) : Out :=
  putCarry .scf true s

/-- R196: INC A. -/
def execIncA (s : State) : Out :=
  incOpnd .incA (.reg .a) s

/-- R198: DEC A. -/
def execDecA (s : State) : Out :=
  decOpnd .decA (.reg .a) s

/-- R203: CCF. -/
def execCcf (s : State) : Out :=
  putCarry .ccf (!s.cf) s

/-- R172: ADD A,B. -/
def execAddAB (s : State) : Out :=
  aluA .addAB .add (.reg .b) s

/-- R172: ADD A,C. -/
def execAddAC (s : State) : Out :=
  aluA .addAC .add (.reg .c) s

/-- R172: ADD A,D. -/
def execAddAD (s : State) : Out :=
  aluA .addAD .add (.reg .d) s

/-- R172: ADD A,E. -/
def execAddAE (s : State) : Out :=
  aluA .addAE .add (.reg .e) s

/-- R172: ADD A,H. -/
def execAddAH (s : State) : Out :=
  aluA .addAH .add (.reg .h) s

/-- R172: ADD A,L. -/
def execAddAL (s : State) : Out :=
  aluA .addAL .add (.reg .l) s

/-- R173: ADD A,(HL). -/
def execAddAMhl (s : State) : Out :=
  aluA .addAMhl .add .mhl s

/-- R172: ADD A,A. -/
def execAddAA (s : State) : Out :=
  aluA .addAA .add (.reg .a) s

/-- R175: ADC A,B. -/
def execAdcAB (s : State) : Out :=
  aluA .adcAB .adc (.reg .b) s

/-- R175: ADC A,C. -/
def execAdcAC (s : State) : Out :=
  aluA .adcAC .adc (.reg .c) s

/-- R175: ADC A,D. -/
def execAdcAD (s : State) : Out :=
  aluA .adcAD .adc (.reg .d) s

/-- R175: ADC A,E. -/
def execAdcAE (s : State) : Out :=
  aluA .adcAE .adc (.reg .e) s

/-- R175: ADC A,H. -/
def execAdcAH (s : State) : Out :=
  aluA .adcAH .adc (.reg .h) s

/-- R175: ADC A,L. -/
def execAdcAL (s : State) : Out :=
  aluA .adcAL .adc (.reg .l) s

/-- R176: ADC A,(HL). -/
def execAdcAMhl (s : State) : Out :=
  aluA .adcAMhl .adc .mhl s

/-- R175: ADC A,A. -/
def execAdcAA (s : State) : Out :=
  aluA .adcAA .adc (.reg .a) s

/-- R178: SUB B. -/
def execSubAB (s : State) : Out :=
  aluA .subAB .sub (.reg .b) s

/-- R178: SUB C. -/
def execSubAC (s : State) : Out :=
  aluA .subAC .sub (.reg .c) s

/-- R178: SUB D. -/
def execSubAD (s : State) : Out :=
  aluA .subAD .sub (.reg .d) s

/-- R178: SUB E. -/
def execSubAE (s : State) : Out :=
  aluA .subAE .sub (.reg .e) s

/-- R178: SUB H. -/
def execSubAH (s : State) : Out :=
  aluA .subAH .sub (.reg .h) s

/-- R178: SUB L. -/
def execSubAL (s : State) : Out :=
  aluA .subAL .sub (.reg .l) s

/-- R179: SUB (HL). -/
def execSubAMhl (s : State) : Out :=
  aluA .subAMhl .sub .mhl s

/-- R178: SUB A. -/
def execSubAA (s : State) : Out :=
  aluA .subAA .sub (.reg .a) s

/-- R181: SBC A,B. -/
def execSbcAB (s : State) : Out :=
  aluA .sbcAB .sbc (.reg .b) s

/-- R181: SBC A,C. -/
def execSbcAC (s : State) : Out :=
  aluA .sbcAC .sbc (.reg .c) s

/-- R181: SBC A,D. -/
def execSbcAD (s : State) : Out :=
  aluA .sbcAD .sbc (.reg .d) s

/-- R181: SBC A,E. -/
def execSbcAE (s : State) : Out :=
  aluA .sbcAE .sbc (.reg .e) s

/-- R181: SBC A,H. -/
def execSbcAH (s : State) : Out :=
  aluA .sbcAH .sbc (.reg .h) s

/-- R181: SBC A,L. -/
def execSbcAL (s : State) : Out :=
  aluA .sbcAL .sbc (.reg .l) s

/-- R182: SBC A,(HL). -/
def execSbcAMhl (s : State) : Out :=
  aluA .sbcAMhl .sbc .mhl s

/-- R181: SBC A,A. -/
def execSbcAA (s : State) : Out :=
  aluA .sbcAA .sbc (.reg .a) s

/-- R184: AND B. -/
def execAndAB (s : State) : Out :=
  aluA .andAB .and (.reg .b) s

/-- R184: AND C. -/
def execAndAC (s : State) : Out :=
  aluA .andAC .and (.reg .c) s

/-- R184: AND D. -/
def execAndAD (s : State) : Out :=
  aluA .andAD .and (.reg .d) s

/-- R184: AND E. -/
def execAndAE (s : State) : Out :=
  aluA .andAE .and (.reg .e) s

/-- R184: AND H. -/
def execAndAH (s : State) : Out :=
  aluA .andAH .and (.reg .h) s

/-- R184: AND L. -/
def execAndAL (s : State) : Out :=
  aluA .andAL .and (.reg .l) s

/-- R185: AND (HL). -/
def execAndAMhl (s : State) : Out :=
  aluA .andAMhl .and .mhl s

/-- R184: AND A. -/
def execAndAA (s : State) : Out :=
  aluA .andAA .and (.reg .a) s

/-- R187: XOR B. -/
def execXorAB (s : State) : Out :=
  aluA .xorAB .xor (.reg .b) s

/-- R187: XOR C. -/
def execXorAC (s : State) : Out :=
  aluA .xorAC .xor (.reg .c) s

/-- R187: XOR D. -/
def execXorAD (s : State) : Out :=
  aluA .xorAD .xor (.reg .d) s

/-- R187: XOR E. -/
def execXorAE (s : State) : Out :=
  aluA .xorAE .xor (.reg .e) s

/-- R187: XOR H. -/
def execXorAH (s : State) : Out :=
  aluA .xorAH .xor (.reg .h) s

/-- R187: XOR L. -/
def execXorAL (s : State) : Out :=
  aluA .xorAL .xor (.reg .l) s

/-- R188: XOR (HL). -/
def execXorAMhl (s : State) : Out :=
  aluA .xorAMhl .xor .mhl s

/-- R187: XOR A. -/
def execXorAA (s : State) : Out :=
  aluA .xorAA .xor (.reg .a) s

/-- R190: OR B. -/
def execOrAB (s : State) : Out :=
  aluA .orAB .or (.reg .b) s

/-- R190: OR C. -/
def execOrAC (s : State) : Out :=
  aluA .orAC .or (.reg .c) s

/-- R190: OR D. -/
def execOrAD (s : State) : Out :=
  aluA .orAD .or (.reg .d) s

/-- R190: OR E. -/
def execOrAE (s : State) : Out :=
  aluA .orAE .or (.reg .e) s

/-- R190: OR H. -/
def execOrAH (s : State) : Out :=
  aluA .orAH .or (.reg .h) s

/-- R190: OR L. -/
def execOrAL (s : State) : Out :=
  aluA .orAL .or (.reg .l) s

/-- R191: OR (HL). -/
def execOrAMhl (s : State) : Out :=
  aluA .orAMhl .or .mhl s

/-- R190: OR A. -/
def execOrAA (s : State) : Out :=
  aluA .orAA .or (.reg .a) s

/-- R193: CP B. -/
def execCpAB (s : State) : Out :=
  aluA .cpAB .cp (.reg .b) s

/-- R193: CP C. -/
def execCpAC (s : State) : Out :=
  aluA .cpAC .cp (.reg .c) s

/-- R193: CP D. -/
def execCpAD (s : State) : Out :=
  aluA .cpAD .cp (.reg .d) s

/-- R193: CP E. -/
def execCpAE (s : State) : Out :=
  aluA .cpAE .cp (.reg .e) s

/-- R193: CP H. -/
def execCpAH (s : State) : Out :=
  aluA .cpAH .cp (.reg .h) s

/-- R193: CP L. -/
def execCpAL (s : State) : Out :=
  aluA .cpAL .cp (.reg .l) s

/-- R194: CP (HL). -/
def execCpAMhl (s : State) : Out :=
  aluA .cpAMhl .cp .mhl s

/-- R193: CP A. -/
def execCpAA (s : State) : Out :=
  aluA .cpAA .cp (.reg .a) s

/-- R174: ADD A,d8. -/
def execAddAD8 (s : State) : Out :=
  aluA .addAD8 .add .d8 s

/-- R177: ADC A,d8. -/
def execAdcAD8 (s : State) : Out :=
  aluA .adcAD8 .adc .d8 s

/-- R180: SUB d8. -/
def execSubAD8 (s : State) : Out :=
  aluA .subAD8 .sub .d8 s

/-- R183: SBC A,d8. -/
def execSbcAD8 (s : State) : Out :=
  aluA .sbcAD8 .sbc .d8 s

/-- R186: AND d8. -/
def execAndAD8 (s : State) : Out :=
  aluA .andAD8 .and .d8 s

/-- R189: XOR d8. -/
def execXorAD8 (s : State) : Out :=
  aluA .xorAD8 .xor .d8 s

/-- R192: OR d8. -/
def execOrAD8 (s : State) : Out :=
  aluA .orAD8 .or .d8 s

/-- R195: CP d8. -/
def execCpAD8 (s : State) : Out :=
  aluA .cpAD8 .cp .d8 s

end Sys2Proof.Machine
end

