-- ==== Sys2Proof/Machine/BitOps.lean ====
section
/-! DEFINITION. The prefixed bit test, reset and set (spec/44_rotate_shift_bit.md R241 to R246). -/

namespace Sys2Proof.Machine

/-- BIT b,x (R241, R242): c kept, nothing written back. -/
def bitOpnd (i : Instr) (b : Fin 8) (x : Opnd) (s : State) : Out :=
  let v := s.readOpnd x
  .next ((v.2.setFlags (!v.1.getLsbD b.val) false true s.cf).finish (s.pc + 2) (s.params.cost i))

/-- RES b,x (R243, R244): no flag; the write is made even when the bit was 0. -/
def resOpnd (i : Instr) (b : Fin 8) (x : Opnd) (s : State) : Out :=
  let v := s.readOpnd x
  .next ((v.2.writeOpnd x (resBit b v.1)).finish (s.pc + 2) (s.params.cost i))

/-- SET b,x (R245, R246): no flag; the write is made even when the bit was 1. -/
def setOpnd (i : Instr) (b : Fin 8) (x : Opnd) (s : State) : Out :=
  let v := s.readOpnd x
  .next ((v.2.writeOpnd x (setBit b v.1)).finish (s.pc + 2) (s.params.cost i))

/-- R241: BIT 0,B. -/
def execBit0B (s : State) : Out :=
  bitOpnd .bit0B 0 (.reg .b) s

/-- R241: BIT 0,C. -/
def execBit0C (s : State) : Out :=
  bitOpnd .bit0C 0 (.reg .c) s

/-- R241: BIT 0,D. -/
def execBit0D (s : State) : Out :=
  bitOpnd .bit0D 0 (.reg .d) s

/-- R241: BIT 0,E. -/
def execBit0E (s : State) : Out :=
  bitOpnd .bit0E 0 (.reg .e) s

/-- R241: BIT 0,H. -/
def execBit0H (s : State) : Out :=
  bitOpnd .bit0H 0 (.reg .h) s

/-- R241: BIT 0,L. -/
def execBit0L (s : State) : Out :=
  bitOpnd .bit0L 0 (.reg .l) s

/-- R242: BIT 0,(HL). -/
def execBit0Mhl (s : State) : Out :=
  bitOpnd .bit0Mhl 0 .mhl s

/-- R241: BIT 0,A. -/
def execBit0A (s : State) : Out :=
  bitOpnd .bit0A 0 (.reg .a) s

/-- R241: BIT 1,B. -/
def execBit1B (s : State) : Out :=
  bitOpnd .bit1B 1 (.reg .b) s

/-- R241: BIT 1,C. -/
def execBit1C (s : State) : Out :=
  bitOpnd .bit1C 1 (.reg .c) s

/-- R241: BIT 1,D. -/
def execBit1D (s : State) : Out :=
  bitOpnd .bit1D 1 (.reg .d) s

/-- R241: BIT 1,E. -/
def execBit1E (s : State) : Out :=
  bitOpnd .bit1E 1 (.reg .e) s

/-- R241: BIT 1,H. -/
def execBit1H (s : State) : Out :=
  bitOpnd .bit1H 1 (.reg .h) s

/-- R241: BIT 1,L. -/
def execBit1L (s : State) : Out :=
  bitOpnd .bit1L 1 (.reg .l) s

/-- R242: BIT 1,(HL). -/
def execBit1Mhl (s : State) : Out :=
  bitOpnd .bit1Mhl 1 .mhl s

/-- R241: BIT 1,A. -/
def execBit1A (s : State) : Out :=
  bitOpnd .bit1A 1 (.reg .a) s

/-- R241: BIT 2,B. -/
def execBit2B (s : State) : Out :=
  bitOpnd .bit2B 2 (.reg .b) s

/-- R241: BIT 2,C. -/
def execBit2C (s : State) : Out :=
  bitOpnd .bit2C 2 (.reg .c) s

/-- R241: BIT 2,D. -/
def execBit2D (s : State) : Out :=
  bitOpnd .bit2D 2 (.reg .d) s

/-- R241: BIT 2,E. -/
def execBit2E (s : State) : Out :=
  bitOpnd .bit2E 2 (.reg .e) s

/-- R241: BIT 2,H. -/
def execBit2H (s : State) : Out :=
  bitOpnd .bit2H 2 (.reg .h) s

/-- R241: BIT 2,L. -/
def execBit2L (s : State) : Out :=
  bitOpnd .bit2L 2 (.reg .l) s

/-- R242: BIT 2,(HL). -/
def execBit2Mhl (s : State) : Out :=
  bitOpnd .bit2Mhl 2 .mhl s

/-- R241: BIT 2,A. -/
def execBit2A (s : State) : Out :=
  bitOpnd .bit2A 2 (.reg .a) s

/-- R241: BIT 3,B. -/
def execBit3B (s : State) : Out :=
  bitOpnd .bit3B 3 (.reg .b) s

/-- R241: BIT 3,C. -/
def execBit3C (s : State) : Out :=
  bitOpnd .bit3C 3 (.reg .c) s

/-- R241: BIT 3,D. -/
def execBit3D (s : State) : Out :=
  bitOpnd .bit3D 3 (.reg .d) s

/-- R241: BIT 3,E. -/
def execBit3E (s : State) : Out :=
  bitOpnd .bit3E 3 (.reg .e) s

/-- R241: BIT 3,H. -/
def execBit3H (s : State) : Out :=
  bitOpnd .bit3H 3 (.reg .h) s

/-- R241: BIT 3,L. -/
def execBit3L (s : State) : Out :=
  bitOpnd .bit3L 3 (.reg .l) s

/-- R242: BIT 3,(HL). -/
def execBit3Mhl (s : State) : Out :=
  bitOpnd .bit3Mhl 3 .mhl s

/-- R241: BIT 3,A. -/
def execBit3A (s : State) : Out :=
  bitOpnd .bit3A 3 (.reg .a) s

/-- R241: BIT 4,B. -/
def execBit4B (s : State) : Out :=
  bitOpnd .bit4B 4 (.reg .b) s

/-- R241: BIT 4,C. -/
def execBit4C (s : State) : Out :=
  bitOpnd .bit4C 4 (.reg .c) s

/-- R241: BIT 4,D. -/
def execBit4D (s : State) : Out :=
  bitOpnd .bit4D 4 (.reg .d) s

/-- R241: BIT 4,E. -/
def execBit4E (s : State) : Out :=
  bitOpnd .bit4E 4 (.reg .e) s

/-- R241: BIT 4,H. -/
def execBit4H (s : State) : Out :=
  bitOpnd .bit4H 4 (.reg .h) s

/-- R241: BIT 4,L. -/
def execBit4L (s : State) : Out :=
  bitOpnd .bit4L 4 (.reg .l) s

/-- R242: BIT 4,(HL). -/
def execBit4Mhl (s : State) : Out :=
  bitOpnd .bit4Mhl 4 .mhl s

/-- R241: BIT 4,A. -/
def execBit4A (s : State) : Out :=
  bitOpnd .bit4A 4 (.reg .a) s

/-- R241: BIT 5,B. -/
def execBit5B (s : State) : Out :=
  bitOpnd .bit5B 5 (.reg .b) s

/-- R241: BIT 5,C. -/
def execBit5C (s : State) : Out :=
  bitOpnd .bit5C 5 (.reg .c) s

/-- R241: BIT 5,D. -/
def execBit5D (s : State) : Out :=
  bitOpnd .bit5D 5 (.reg .d) s

/-- R241: BIT 5,E. -/
def execBit5E (s : State) : Out :=
  bitOpnd .bit5E 5 (.reg .e) s

/-- R241: BIT 5,H. -/
def execBit5H (s : State) : Out :=
  bitOpnd .bit5H 5 (.reg .h) s

/-- R241: BIT 5,L. -/
def execBit5L (s : State) : Out :=
  bitOpnd .bit5L 5 (.reg .l) s

/-- R242: BIT 5,(HL). -/
def execBit5Mhl (s : State) : Out :=
  bitOpnd .bit5Mhl 5 .mhl s

/-- R241: BIT 5,A. -/
def execBit5A (s : State) : Out :=
  bitOpnd .bit5A 5 (.reg .a) s

/-- R241: BIT 6,B. -/
def execBit6B (s : State) : Out :=
  bitOpnd .bit6B 6 (.reg .b) s

/-- R241: BIT 6,C. -/
def execBit6C (s : State) : Out :=
  bitOpnd .bit6C 6 (.reg .c) s

/-- R241: BIT 6,D. -/
def execBit6D (s : State) : Out :=
  bitOpnd .bit6D 6 (.reg .d) s

/-- R241: BIT 6,E. -/
def execBit6E (s : State) : Out :=
  bitOpnd .bit6E 6 (.reg .e) s

/-- R241: BIT 6,H. -/
def execBit6H (s : State) : Out :=
  bitOpnd .bit6H 6 (.reg .h) s

/-- R241: BIT 6,L. -/
def execBit6L (s : State) : Out :=
  bitOpnd .bit6L 6 (.reg .l) s

/-- R242: BIT 6,(HL). -/
def execBit6Mhl (s : State) : Out :=
  bitOpnd .bit6Mhl 6 .mhl s

/-- R241: BIT 6,A. -/
def execBit6A (s : State) : Out :=
  bitOpnd .bit6A 6 (.reg .a) s

/-- R241: BIT 7,B. -/
def execBit7B (s : State) : Out :=
  bitOpnd .bit7B 7 (.reg .b) s

/-- R241: BIT 7,C. -/
def execBit7C (s : State) : Out :=
  bitOpnd .bit7C 7 (.reg .c) s

/-- R241: BIT 7,D. -/
def execBit7D (s : State) : Out :=
  bitOpnd .bit7D 7 (.reg .d) s

/-- R241: BIT 7,E. -/
def execBit7E (s : State) : Out :=
  bitOpnd .bit7E 7 (.reg .e) s

/-- R241: BIT 7,H. -/
def execBit7H (s : State) : Out :=
  bitOpnd .bit7H 7 (.reg .h) s

/-- R241: BIT 7,L. -/
def execBit7L (s : State) : Out :=
  bitOpnd .bit7L 7 (.reg .l) s

/-- R242: BIT 7,(HL). -/
def execBit7Mhl (s : State) : Out :=
  bitOpnd .bit7Mhl 7 .mhl s

/-- R241: BIT 7,A. -/
def execBit7A (s : State) : Out :=
  bitOpnd .bit7A 7 (.reg .a) s

/-- R243: RES 0,B. -/
def execRes0B (s : State) : Out :=
  resOpnd .res0B 0 (.reg .b) s

/-- R243: RES 0,C. -/
def execRes0C (s : State) : Out :=
  resOpnd .res0C 0 (.reg .c) s

/-- R243: RES 0,D. -/
def execRes0D (s : State) : Out :=
  resOpnd .res0D 0 (.reg .d) s

/-- R243: RES 0,E. -/
def execRes0E (s : State) : Out :=
  resOpnd .res0E 0 (.reg .e) s

/-- R243: RES 0,H. -/
def execRes0H (s : State) : Out :=
  resOpnd .res0H 0 (.reg .h) s

/-- R243: RES 0,L. -/
def execRes0L (s : State) : Out :=
  resOpnd .res0L 0 (.reg .l) s

/-- R244: RES 0,(HL). -/
def execRes0Mhl (s : State) : Out :=
  resOpnd .res0Mhl 0 .mhl s

/-- R243: RES 0,A. -/
def execRes0A (s : State) : Out :=
  resOpnd .res0A 0 (.reg .a) s

/-- R243: RES 1,B. -/
def execRes1B (s : State) : Out :=
  resOpnd .res1B 1 (.reg .b) s

/-- R243: RES 1,C. -/
def execRes1C (s : State) : Out :=
  resOpnd .res1C 1 (.reg .c) s

/-- R243: RES 1,D. -/
def execRes1D (s : State) : Out :=
  resOpnd .res1D 1 (.reg .d) s

/-- R243: RES 1,E. -/
def execRes1E (s : State) : Out :=
  resOpnd .res1E 1 (.reg .e) s

/-- R243: RES 1,H. -/
def execRes1H (s : State) : Out :=
  resOpnd .res1H 1 (.reg .h) s

/-- R243: RES 1,L. -/
def execRes1L (s : State) : Out :=
  resOpnd .res1L 1 (.reg .l) s

/-- R244: RES 1,(HL). -/
def execRes1Mhl (s : State) : Out :=
  resOpnd .res1Mhl 1 .mhl s

/-- R243: RES 1,A. -/
def execRes1A (s : State) : Out :=
  resOpnd .res1A 1 (.reg .a) s

/-- R243: RES 2,B. -/
def execRes2B (s : State) : Out :=
  resOpnd .res2B 2 (.reg .b) s

/-- R243: RES 2,C. -/
def execRes2C (s : State) : Out :=
  resOpnd .res2C 2 (.reg .c) s

/-- R243: RES 2,D. -/
def execRes2D (s : State) : Out :=
  resOpnd .res2D 2 (.reg .d) s

/-- R243: RES 2,E. -/
def execRes2E (s : State) : Out :=
  resOpnd .res2E 2 (.reg .e) s

/-- R243: RES 2,H. -/
def execRes2H (s : State) : Out :=
  resOpnd .res2H 2 (.reg .h) s

/-- R243: RES 2,L. -/
def execRes2L (s : State) : Out :=
  resOpnd .res2L 2 (.reg .l) s

/-- R244: RES 2,(HL). -/
def execRes2Mhl (s : State) : Out :=
  resOpnd .res2Mhl 2 .mhl s

/-- R243: RES 2,A. -/
def execRes2A (s : State) : Out :=
  resOpnd .res2A 2 (.reg .a) s

/-- R243: RES 3,B. -/
def execRes3B (s : State) : Out :=
  resOpnd .res3B 3 (.reg .b) s

/-- R243: RES 3,C. -/
def execRes3C (s : State) : Out :=
  resOpnd .res3C 3 (.reg .c) s

/-- R243: RES 3,D. -/
def execRes3D (s : State) : Out :=
  resOpnd .res3D 3 (.reg .d) s

/-- R243: RES 3,E. -/
def execRes3E (s : State) : Out :=
  resOpnd .res3E 3 (.reg .e) s

/-- R243: RES 3,H. -/
def execRes3H (s : State) : Out :=
  resOpnd .res3H 3 (.reg .h) s

/-- R243: RES 3,L. -/
def execRes3L (s : State) : Out :=
  resOpnd .res3L 3 (.reg .l) s

/-- R244: RES 3,(HL). -/
def execRes3Mhl (s : State) : Out :=
  resOpnd .res3Mhl 3 .mhl s

/-- R243: RES 3,A. -/
def execRes3A (s : State) : Out :=
  resOpnd .res3A 3 (.reg .a) s

/-- R243: RES 4,B. -/
def execRes4B (s : State) : Out :=
  resOpnd .res4B 4 (.reg .b) s

/-- R243: RES 4,C. -/
def execRes4C (s : State) : Out :=
  resOpnd .res4C 4 (.reg .c) s

/-- R243: RES 4,D. -/
def execRes4D (s : State) : Out :=
  resOpnd .res4D 4 (.reg .d) s

/-- R243: RES 4,E. -/
def execRes4E (s : State) : Out :=
  resOpnd .res4E 4 (.reg .e) s

/-- R243: RES 4,H. -/
def execRes4H (s : State) : Out :=
  resOpnd .res4H 4 (.reg .h) s

/-- R243: RES 4,L. -/
def execRes4L (s : State) : Out :=
  resOpnd .res4L 4 (.reg .l) s

/-- R244: RES 4,(HL). -/
def execRes4Mhl (s : State) : Out :=
  resOpnd .res4Mhl 4 .mhl s

/-- R243: RES 4,A. -/
def execRes4A (s : State) : Out :=
  resOpnd .res4A 4 (.reg .a) s

/-- R243: RES 5,B. -/
def execRes5B (s : State) : Out :=
  resOpnd .res5B 5 (.reg .b) s

/-- R243: RES 5,C. -/
def execRes5C (s : State) : Out :=
  resOpnd .res5C 5 (.reg .c) s

/-- R243: RES 5,D. -/
def execRes5D (s : State) : Out :=
  resOpnd .res5D 5 (.reg .d) s

/-- R243: RES 5,E. -/
def execRes5E (s : State) : Out :=
  resOpnd .res5E 5 (.reg .e) s

/-- R243: RES 5,H. -/
def execRes5H (s : State) : Out :=
  resOpnd .res5H 5 (.reg .h) s

/-- R243: RES 5,L. -/
def execRes5L (s : State) : Out :=
  resOpnd .res5L 5 (.reg .l) s

/-- R244: RES 5,(HL). -/
def execRes5Mhl (s : State) : Out :=
  resOpnd .res5Mhl 5 .mhl s

/-- R243: RES 5,A. -/
def execRes5A (s : State) : Out :=
  resOpnd .res5A 5 (.reg .a) s

/-- R243: RES 6,B. -/
def execRes6B (s : State) : Out :=
  resOpnd .res6B 6 (.reg .b) s

/-- R243: RES 6,C. -/
def execRes6C (s : State) : Out :=
  resOpnd .res6C 6 (.reg .c) s

/-- R243: RES 6,D. -/
def execRes6D (s : State) : Out :=
  resOpnd .res6D 6 (.reg .d) s

/-- R243: RES 6,E. -/
def execRes6E (s : State) : Out :=
  resOpnd .res6E 6 (.reg .e) s

/-- R243: RES 6,H. -/
def execRes6H (s : State) : Out :=
  resOpnd .res6H 6 (.reg .h) s

/-- R243: RES 6,L. -/
def execRes6L (s : State) : Out :=
  resOpnd .res6L 6 (.reg .l) s

/-- R244: RES 6,(HL). -/
def execRes6Mhl (s : State) : Out :=
  resOpnd .res6Mhl 6 .mhl s

/-- R243: RES 6,A. -/
def execRes6A (s : State) : Out :=
  resOpnd .res6A 6 (.reg .a) s

/-- R243: RES 7,B. -/
def execRes7B (s : State) : Out :=
  resOpnd .res7B 7 (.reg .b) s

/-- R243: RES 7,C. -/
def execRes7C (s : State) : Out :=
  resOpnd .res7C 7 (.reg .c) s

/-- R243: RES 7,D. -/
def execRes7D (s : State) : Out :=
  resOpnd .res7D 7 (.reg .d) s

/-- R243: RES 7,E. -/
def execRes7E (s : State) : Out :=
  resOpnd .res7E 7 (.reg .e) s

/-- R243: RES 7,H. -/
def execRes7H (s : State) : Out :=
  resOpnd .res7H 7 (.reg .h) s

/-- R243: RES 7,L. -/
def execRes7L (s : State) : Out :=
  resOpnd .res7L 7 (.reg .l) s

/-- R244: RES 7,(HL). -/
def execRes7Mhl (s : State) : Out :=
  resOpnd .res7Mhl 7 .mhl s

/-- R243: RES 7,A. -/
def execRes7A (s : State) : Out :=
  resOpnd .res7A 7 (.reg .a) s

/-- R245: SET 0,B. -/
def execSet0B (s : State) : Out :=
  setOpnd .set0B 0 (.reg .b) s

/-- R245: SET 0,C. -/
def execSet0C (s : State) : Out :=
  setOpnd .set0C 0 (.reg .c) s

/-- R245: SET 0,D. -/
def execSet0D (s : State) : Out :=
  setOpnd .set0D 0 (.reg .d) s

/-- R245: SET 0,E. -/
def execSet0E (s : State) : Out :=
  setOpnd .set0E 0 (.reg .e) s

/-- R245: SET 0,H. -/
def execSet0H (s : State) : Out :=
  setOpnd .set0H 0 (.reg .h) s

/-- R245: SET 0,L. -/
def execSet0L (s : State) : Out :=
  setOpnd .set0L 0 (.reg .l) s

/-- R246: SET 0,(HL). -/
def execSet0Mhl (s : State) : Out :=
  setOpnd .set0Mhl 0 .mhl s

/-- R245: SET 0,A. -/
def execSet0A (s : State) : Out :=
  setOpnd .set0A 0 (.reg .a) s

/-- R245: SET 1,B. -/
def execSet1B (s : State) : Out :=
  setOpnd .set1B 1 (.reg .b) s

/-- R245: SET 1,C. -/
def execSet1C (s : State) : Out :=
  setOpnd .set1C 1 (.reg .c) s

/-- R245: SET 1,D. -/
def execSet1D (s : State) : Out :=
  setOpnd .set1D 1 (.reg .d) s

/-- R245: SET 1,E. -/
def execSet1E (s : State) : Out :=
  setOpnd .set1E 1 (.reg .e) s

/-- R245: SET 1,H. -/
def execSet1H (s : State) : Out :=
  setOpnd .set1H 1 (.reg .h) s

/-- R245: SET 1,L. -/
def execSet1L (s : State) : Out :=
  setOpnd .set1L 1 (.reg .l) s

/-- R246: SET 1,(HL). -/
def execSet1Mhl (s : State) : Out :=
  setOpnd .set1Mhl 1 .mhl s

/-- R245: SET 1,A. -/
def execSet1A (s : State) : Out :=
  setOpnd .set1A 1 (.reg .a) s

/-- R245: SET 2,B. -/
def execSet2B (s : State) : Out :=
  setOpnd .set2B 2 (.reg .b) s

/-- R245: SET 2,C. -/
def execSet2C (s : State) : Out :=
  setOpnd .set2C 2 (.reg .c) s

/-- R245: SET 2,D. -/
def execSet2D (s : State) : Out :=
  setOpnd .set2D 2 (.reg .d) s

/-- R245: SET 2,E. -/
def execSet2E (s : State) : Out :=
  setOpnd .set2E 2 (.reg .e) s

/-- R245: SET 2,H. -/
def execSet2H (s : State) : Out :=
  setOpnd .set2H 2 (.reg .h) s

/-- R245: SET 2,L. -/
def execSet2L (s : State) : Out :=
  setOpnd .set2L 2 (.reg .l) s

/-- R246: SET 2,(HL). -/
def execSet2Mhl (s : State) : Out :=
  setOpnd .set2Mhl 2 .mhl s

/-- R245: SET 2,A. -/
def execSet2A (s : State) : Out :=
  setOpnd .set2A 2 (.reg .a) s

/-- R245: SET 3,B. -/
def execSet3B (s : State) : Out :=
  setOpnd .set3B 3 (.reg .b) s

/-- R245: SET 3,C. -/
def execSet3C (s : State) : Out :=
  setOpnd .set3C 3 (.reg .c) s

/-- R245: SET 3,D. -/
def execSet3D (s : State) : Out :=
  setOpnd .set3D 3 (.reg .d) s

/-- R245: SET 3,E. -/
def execSet3E (s : State) : Out :=
  setOpnd .set3E 3 (.reg .e) s

/-- R245: SET 3,H. -/
def execSet3H (s : State) : Out :=
  setOpnd .set3H 3 (.reg .h) s

/-- R245: SET 3,L. -/
def execSet3L (s : State) : Out :=
  setOpnd .set3L 3 (.reg .l) s

/-- R246: SET 3,(HL). -/
def execSet3Mhl (s : State) : Out :=
  setOpnd .set3Mhl 3 .mhl s

/-- R245: SET 3,A. -/
def execSet3A (s : State) : Out :=
  setOpnd .set3A 3 (.reg .a) s

/-- R245: SET 4,B. -/
def execSet4B (s : State) : Out :=
  setOpnd .set4B 4 (.reg .b) s

/-- R245: SET 4,C. -/
def execSet4C (s : State) : Out :=
  setOpnd .set4C 4 (.reg .c) s

/-- R245: SET 4,D. -/
def execSet4D (s : State) : Out :=
  setOpnd .set4D 4 (.reg .d) s

/-- R245: SET 4,E. -/
def execSet4E (s : State) : Out :=
  setOpnd .set4E 4 (.reg .e) s

/-- R245: SET 4,H. -/
def execSet4H (s : State) : Out :=
  setOpnd .set4H 4 (.reg .h) s

/-- R245: SET 4,L. -/
def execSet4L (s : State) : Out :=
  setOpnd .set4L 4 (.reg .l) s

/-- R246: SET 4,(HL). -/
def execSet4Mhl (s : State) : Out :=
  setOpnd .set4Mhl 4 .mhl s

/-- R245: SET 4,A. -/
def execSet4A (s : State) : Out :=
  setOpnd .set4A 4 (.reg .a) s

/-- R245: SET 5,B. -/
def execSet5B (s : State) : Out :=
  setOpnd .set5B 5 (.reg .b) s

/-- R245: SET 5,C. -/
def execSet5C (s : State) : Out :=
  setOpnd .set5C 5 (.reg .c) s

/-- R245: SET 5,D. -/
def execSet5D (s : State) : Out :=
  setOpnd .set5D 5 (.reg .d) s

/-- R245: SET 5,E. -/
def execSet5E (s : State) : Out :=
  setOpnd .set5E 5 (.reg .e) s

/-- R245: SET 5,H. -/
def execSet5H (s : State) : Out :=
  setOpnd .set5H 5 (.reg .h) s

/-- R245: SET 5,L. -/
def execSet5L (s : State) : Out :=
  setOpnd .set5L 5 (.reg .l) s

/-- R246: SET 5,(HL). -/
def execSet5Mhl (s : State) : Out :=
  setOpnd .set5Mhl 5 .mhl s

/-- R245: SET 5,A. -/
def execSet5A (s : State) : Out :=
  setOpnd .set5A 5 (.reg .a) s

/-- R245: SET 6,B. -/
def execSet6B (s : State) : Out :=
  setOpnd .set6B 6 (.reg .b) s

/-- R245: SET 6,C. -/
def execSet6C (s : State) : Out :=
  setOpnd .set6C 6 (.reg .c) s

/-- R245: SET 6,D. -/
def execSet6D (s : State) : Out :=
  setOpnd .set6D 6 (.reg .d) s

/-- R245: SET 6,E. -/
def execSet6E (s : State) : Out :=
  setOpnd .set6E 6 (.reg .e) s

/-- R245: SET 6,H. -/
def execSet6H (s : State) : Out :=
  setOpnd .set6H 6 (.reg .h) s

/-- R245: SET 6,L. -/
def execSet6L (s : State) : Out :=
  setOpnd .set6L 6 (.reg .l) s

/-- R246: SET 6,(HL). -/
def execSet6Mhl (s : State) : Out :=
  setOpnd .set6Mhl 6 .mhl s

/-- R245: SET 6,A. -/
def execSet6A (s : State) : Out :=
  setOpnd .set6A 6 (.reg .a) s

/-- R245: SET 7,B. -/
def execSet7B (s : State) : Out :=
  setOpnd .set7B 7 (.reg .b) s

/-- R245: SET 7,C. -/
def execSet7C (s : State) : Out :=
  setOpnd .set7C 7 (.reg .c) s

/-- R245: SET 7,D. -/
def execSet7D (s : State) : Out :=
  setOpnd .set7D 7 (.reg .d) s

/-- R245: SET 7,E. -/
def execSet7E (s : State) : Out :=
  setOpnd .set7E 7 (.reg .e) s

/-- R245: SET 7,H. -/
def execSet7H (s : State) : Out :=
  setOpnd .set7H 7 (.reg .h) s

/-- R245: SET 7,L. -/
def execSet7L (s : State) : Out :=
  setOpnd .set7L 7 (.reg .l) s

/-- R246: SET 7,(HL). -/
def execSet7Mhl (s : State) : Out :=
  setOpnd .set7Mhl 7 .mhl s

/-- R245: SET 7,A. -/
def execSet7A (s : State) : Out :=
  setOpnd .set7A 7 (.reg .a) s

end Sys2Proof.Machine
end

