-- ==== Sys2Proof/Machine/ControlFlow.lean ====
section
/-! DEFINITION. The control transfers (spec/45_control_flow.md R250 to R260). No transfer writes a flag; a taken conditional
transfer costs its `cycles_taken` (R380). -/

namespace Sys2Proof.Machine

/-- JP a16 (R250). -/
def jumpAbs (i : Instr) (s : State) : Out :=
  let t := s.imm16
  .next (t.2.finish t.1 (s.params.cost i))

/-- JP cc,a16 (R251): the immediate is read whether or not the jump is taken. -/
def jumpAbsIf (i : Instr) (cc : Cond) (s : State) : Out :=
  let t := s.imm16
  if s.cond cc then .next (t.2.finish t.1 (s.params.costTaken i))
  else .next (t.2.finish (s.pc + 3) (s.params.cost i))

/-- JP HL (R252): HL is the target. -/
def jumpHl (i : Instr) (s : State) : Out :=
  .next (s.finish s.hl (s.params.cost i))

/-- JR r8 (R253): relative to the address of the following instruction. -/
def jumpRel (i : Instr) (s : State) : Out :=
  let e := s.imm8
  .next (e.2.finish (s.pc + 2 + sext16 e.1) (s.params.cost i))

/-- JR cc,r8 (R254). -/
def jumpRelIf (i : Instr) (cc : Cond) (s : State) : Out :=
  let e := s.imm8
  if s.cond cc then .next (e.2.finish (s.pc + 2 + sext16 e.1) (s.params.costTaken i))
  else .next (e.2.finish (s.pc + 2) (s.params.cost i))

/-- CALL a16 (R255): the immediate is read before the push. -/
def callAbs (i : Instr) (s : State) : Out :=
  let t := s.imm16
  .next ((t.2.push16 (s.pc + 3)).finish t.1 (s.params.cost i))

/-- CALL cc,a16 (R256): not taken, nothing is pushed. -/
def callAbsIf (i : Instr) (cc : Cond) (s : State) : Out :=
  let t := s.imm16
  if s.cond cc then .next ((t.2.push16 (s.pc + 3)).finish t.1 (s.params.costTaken i))
  else .next (t.2.finish (s.pc + 3) (s.params.cost i))

/-- RET (R257). -/
def returnPop (i : Instr) (s : State) : Out :=
  let t := s.pop16
  .next (t.2.finish t.1 (s.params.cost i))

/-- RET cc (R258): not taken, the stack is not read. -/
def returnIf (i : Instr) (cc : Cond) (s : State) : Out :=
  let t := s.pop16
  if s.cond cc then .next (t.2.finish t.1 (s.params.costTaken i))
  else .next (s.finish (s.pc + 1) (s.params.cost i))

/-- RETI (R259). -/
def returnInterrupt (i : Instr) (s : State) : Out :=
  .next (s.returnFromInterrupt (s.params.cost i))

/-- RST t (R260): `target` is `8 * t`. -/
def restart (i : Instr) (target : Word) (s : State) : Out :=
  .next ((s.push16 (s.pc + 1)).finish target (s.params.cost i))

/-- R253: JR r8. -/
def execJrR8 (s : State) : Out :=
  jumpRel .jrR8 s

/-- R254: JR NZ,r8. -/
def execJrNzR8 (s : State) : Out :=
  jumpRelIf .jrNzR8 .nz s

/-- R254: JR Z,r8. -/
def execJrZR8 (s : State) : Out :=
  jumpRelIf .jrZR8 .z s

/-- R254: JR NC,r8. -/
def execJrNcR8 (s : State) : Out :=
  jumpRelIf .jrNcR8 .nc s

/-- R254: JR C,r8. -/
def execJrCR8 (s : State) : Out :=
  jumpRelIf .jrCR8 .c s

/-- R258: RET NZ. -/
def execRetNz (s : State) : Out :=
  returnIf .retNz .nz s

/-- R251: JP NZ,a16. -/
def execJpNzA16 (s : State) : Out :=
  jumpAbsIf .jpNzA16 .nz s

/-- R250: JP a16. -/
def execJpA16 (s : State) : Out :=
  jumpAbs .jpA16 s

/-- R256: CALL NZ,a16. -/
def execCallNzA16 (s : State) : Out :=
  callAbsIf .callNzA16 .nz s

/-- R260: RST 0x00. -/
def execRst00 (s : State) : Out :=
  restart .rst00 0x0000 s

/-- R258: RET Z. -/
def execRetZ (s : State) : Out :=
  returnIf .retZ .z s

/-- R257: RET. -/
def execRet (s : State) : Out :=
  returnPop .ret s

/-- R251: JP Z,a16. -/
def execJpZA16 (s : State) : Out :=
  jumpAbsIf .jpZA16 .z s

/-- R256: CALL Z,a16. -/
def execCallZA16 (s : State) : Out :=
  callAbsIf .callZA16 .z s

/-- R255: CALL a16. -/
def execCallA16 (s : State) : Out :=
  callAbs .callA16 s

/-- R260: RST 0x08. -/
def execRst08 (s : State) : Out :=
  restart .rst08 0x0008 s

/-- R258: RET NC. -/
def execRetNc (s : State) : Out :=
  returnIf .retNc .nc s

/-- R251: JP NC,a16. -/
def execJpNcA16 (s : State) : Out :=
  jumpAbsIf .jpNcA16 .nc s

/-- R256: CALL NC,a16. -/
def execCallNcA16 (s : State) : Out :=
  callAbsIf .callNcA16 .nc s

/-- R260: RST 0x10. -/
def execRst10 (s : State) : Out :=
  restart .rst10 0x0010 s

/-- R258: RET C. -/
def execRetC (s : State) : Out :=
  returnIf .retC .c s

/-- R259: RETI. -/
def execReti (s : State) : Out :=
  returnInterrupt .reti s

/-- R251: JP C,a16. -/
def execJpCA16 (s : State) : Out :=
  jumpAbsIf .jpCA16 .c s

/-- R256: CALL C,a16. -/
def execCallCA16 (s : State) : Out :=
  callAbsIf .callCA16 .c s

/-- R260: RST 0x18. -/
def execRst18 (s : State) : Out :=
  restart .rst18 0x0018 s

/-- R260: RST 0x20. -/
def execRst20 (s : State) : Out :=
  restart .rst20 0x0020 s

/-- R252: JP HL. -/
def execJpHl (s : State) : Out :=
  jumpHl .jpHl s

/-- R260: RST 0x28. -/
def execRst28 (s : State) : Out :=
  restart .rst28 0x0028 s

/-- R260: RST 0x30. -/
def execRst30 (s : State) : Out :=
  restart .rst30 0x0030 s

/-- R260: RST 0x38. -/
def execRst38 (s : State) : Out :=
  restart .rst38 0x0038 s

end Sys2Proof.Machine
end

