-- ==== Sys2Proof/Machine/CpuControl.lean ====
section
/-! DEFINITION. CPU control (spec/46_cpu_control.md R270 to R274). None of these writes a flag. -/

namespace Sys2Proof.Machine

/-- NOP (R270). -/
def nopNext (i : Instr) (s : State) : Out :=
  .next (s.finish (s.pc + 1) (s.params.cost i))

/-- HALT (R271): with IME 0 and an interrupt pending it does not halt and arms `halt_bug`. -/
def haltEngine (i : Instr) (s : State) : Out :=
  if !s.ime && s.anyPending then .next (State.finish { s with haltBug := true } (s.pc + 1) (s.params.cost i))
  else .next (State.finish { s with halted := true } (s.pc + 1) (s.params.cost i))

/-- DI (R272): an enable still deferred is cancelled too. -/
def disableInterrupts (i : Instr) (s : State) : Out :=
  .next (State.finish { s with ime := false, eiPending := false } (s.pc + 1) (s.params.cost i))

/-- EI at execute (R273): no state written; step S7 arms `ei_pending` (R317, `State.afterExec`). -/
def enableInterruptsLater (i : Instr) (s : State) : Out :=
  .next (s.finish (s.pc + 1) (s.params.cost i))

/-- STOP (R274, D24): fatal, or with `STOP_BEHAVIOUR = nop2` two bytes skipped. -/
def stopEngine (i : Instr) (s : State) : Out :=
  match s.params.stopBehaviour with
  | .fatal => .next (s.raiseFatal .stopUnmodelled)
  | .nop2 => .next (s.finish (s.pc + 2) (s.params.cost i))

/-- R270: NOP. -/
def execNop (s : State) : Out :=
  nopNext .nop s

/-- R274: STOP. -/
def execStop (s : State) : Out :=
  stopEngine .stop s

/-- R271: HALT. -/
def execHalt (s : State) : Out :=
  haltEngine .halt s

/-- R272: DI. -/
def execDi (s : State) : Out :=
  disableInterrupts .di s

/-- R273: EI. -/
def execEi (s : State) : Out :=
  enableInterruptsLater .ei s

end Sys2Proof.Machine
end

