-- ==== Sys2Proof/Machine/Load16.lean ====
section
/-! DEFINITION. The 16-bit loads and the stack instructions (spec/41_load16_stack.md R152 to R158). -/

namespace Sys2Proof.Machine

/-- LD rr,d16 (R152). -/
def loadImm16 (i : Instr) (dst : Reg16) (s : State) : Out :=
  let v := s.imm16
  .next ((v.2.setReg16 dst v.1).finish (s.pc + 3) (s.params.cost i))

/-- LD (a16),SP (R153): low byte first. -/
def storeSp (i : Instr) (s : State) : Out :=
  let addr := s.imm16
  .next ((addr.2.write16 addr.1 s.sp).finish (s.pc + 3) (s.params.cost i))

/-- LD SP,HL (R154). -/
def copyHlToSp (i : Instr) (s : State) : Out :=
  .next (State.finish { s with sp := s.hl } (s.pc + 1) (s.params.cost i))

/-- LD HL,SP+r8 (R155, R214): z and n cleared, SP kept. -/
def loadHlSpOffset (i : Instr) (s : State) : Out :=
  let e := s.imm8
  let o := spOffset s.sp e.1
  .next (((e.2.setHl o.result).setFlags false false o.h o.c).finish (s.pc + 2) (s.params.cost i))

/-- PUSH rr (R156). -/
def pushPair (i : Instr) (r : Stk16) (s : State) : Out :=
  .next ((s.push16 (s.getStk16 r)).finish (s.pc + 1) (s.params.cost i))

/-- POP rr (R157) and POP AF (R158). -/
def popPair (i : Instr) (r : Stk16) (s : State) : Out :=
  let v := s.pop16
  .next ((v.2.setStk16 r v.1).finish (s.pc + 1) (s.params.cost i))

/-- R152: LD BC,d16. -/
def execLdBcD16 (s : State) : Out :=
  loadImm16 .ldBcD16 .bc s

/-- R153: LD (a16),SP. -/
def execLdMa16Sp (s : State) : Out :=
  storeSp .ldMa16Sp s

/-- R152: LD DE,d16. -/
def execLdDeD16 (s : State) : Out :=
  loadImm16 .ldDeD16 .de s

/-- R152: LD HL,d16. -/
def execLdHlD16 (s : State) : Out :=
  loadImm16 .ldHlD16 .hl s

/-- R152: LD SP,d16. -/
def execLdSpD16 (s : State) : Out :=
  loadImm16 .ldSpD16 .sp s

/-- R157: POP BC. -/
def execPopBc (s : State) : Out :=
  popPair .popBc .bc s

/-- R156: PUSH BC. -/
def execPushBc (s : State) : Out :=
  pushPair .pushBc .bc s

/-- R157: POP DE. -/
def execPopDe (s : State) : Out :=
  popPair .popDe .de s

/-- R156: PUSH DE. -/
def execPushDe (s : State) : Out :=
  pushPair .pushDe .de s

/-- R157: POP HL. -/
def execPopHl (s : State) : Out :=
  popPair .popHl .hl s

/-- R156: PUSH HL. -/
def execPushHl (s : State) : Out :=
  pushPair .pushHl .hl s

/-- R158: POP AF. -/
def execPopAf (s : State) : Out :=
  popPair .popAf .af s

/-- R156: PUSH AF. -/
def execPushAf (s : State) : Out :=
  pushPair .pushAf .af s

/-- R155: LD HL,SP+r8. -/
def execLdHlSpR8 (s : State) : Out :=
  loadHlSpOffset .ldHlSpR8 s

/-- R154: LD SP,HL. -/
def execLdSpHl (s : State) : Out :=
  copyHlToSp .ldSpHl s

end Sys2Proof.Machine
end

