-- ==== Sys2Proof/Machine/Load8.lean ====
section
/-! DEFINITION. The 8-bit loads (spec/40_load8.md R120 to R138). No load writes a flag. -/

namespace Sys2Proof.Machine

/-- A register from a register, from the cell at HL or from d8 (R120, R121, R123). -/
def loadReg (i : Instr) (dst : Reg8) (src : Src8) (s : State) : Out :=
  let v := s.readSrc src
  .next ((v.2.setReg dst v.1).finish (s.pc + srcLength src) (s.params.cost i))

/-- One byte to an address (R122, R124, R127, R128, R130, R132, R134); `len` is the instruction's length. -/
def storeByte (i : Instr) (addr : Word) (v : Byte) (len : Word) (s : State) : Out :=
  .next ((s.write addr v).finish (s.pc + len) (s.params.cost i))

/-- A from an address (R125, R126, R129, R131, R133); `len` is the instruction's length. -/
def loadA (i : Instr) (addr : Word) (len : Word) (s : State) : Out :=
  let v := s.read addr
  .next ((v.2.setReg .a v.1).finish (s.pc + len) (s.params.cost i))

/-- A to the cell at HL, then HL stepped (R135, R136). -/
def storeAStepHl (i : Instr) (delta : Word) (s : State) : Out :=
  .next (((s.write s.hl s.a).setHl (s.hl + delta)).finish (s.pc + 1) (s.params.cost i))

/-- A from the cell at HL, then HL stepped (R137, R138). -/
def loadAStepHl (i : Instr) (delta : Word) (s : State) : Out :=
  let v := s.read s.hl
  .next (((v.2.setReg .a v.1).setHl (s.hl + delta)).finish (s.pc + 1) (s.params.cost i))

/-- R127: LD (BC),A. -/
def execLdMbcA (s : State) : Out :=
  storeByte .ldMbcA s.bc s.a 1 s

/-- R123: LD B,d8. -/
def execLdBD8 (s : State) : Out :=
  loadReg .ldBD8 .b .d8 s

/-- R125: LD A,(BC). -/
def execLdAMbc (s : State) : Out :=
  loadA .ldAMbc s.bc 1 s

/-- R123: LD C,d8. -/
def execLdCD8 (s : State) : Out :=
  loadReg .ldCD8 .c .d8 s

/-- R128: LD (DE),A. -/
def execLdMdeA (s : State) : Out :=
  storeByte .ldMdeA s.de s.a 1 s

/-- R123: LD D,d8. -/
def execLdDD8 (s : State) : Out :=
  loadReg .ldDD8 .d .d8 s

/-- R126: LD A,(DE). -/
def execLdAMde (s : State) : Out :=
  loadA .ldAMde s.de 1 s

/-- R123: LD E,d8. -/
def execLdED8 (s : State) : Out :=
  loadReg .ldED8 .e .d8 s

/-- R135: LD (HL+),A. -/
def execLdMhliA (s : State) : Out :=
  storeAStepHl .ldMhliA 1 s

/-- R123: LD H,d8. -/
def execLdHD8 (s : State) : Out :=
  loadReg .ldHD8 .h .d8 s

/-- R137: LD A,(HL+). -/
def execLdAMhli (s : State) : Out :=
  loadAStepHl .ldAMhli 1 s

/-- R123: LD L,d8. -/
def execLdLD8 (s : State) : Out :=
  loadReg .ldLD8 .l .d8 s

/-- R136: LD (HL-),A. -/
def execLdMhldA (s : State) : Out :=
  storeAStepHl .ldMhldA (-1) s

/-- R124: LD (HL),d8. -/
def execLdMhlD8 (s : State) : Out :=
  storeByte .ldMhlD8 s.hl s.imm8.1 2 s.imm8.2

/-- R138: LD A,(HL-). -/
def execLdAMhld (s : State) : Out :=
  loadAStepHl .ldAMhld (-1) s

/-- R123: LD A,d8. -/
def execLdAD8 (s : State) : Out :=
  loadReg .ldAD8 .a .d8 s

/-- R120: LD B,B. -/
def execLdBB (s : State) : Out :=
  loadReg .ldBB .b (.reg .b) s

/-- R120: LD B,C. -/
def execLdBC (s : State) : Out :=
  loadReg .ldBC .b (.reg .c) s

/-- R120: LD B,D. -/
def execLdBD (s : State) : Out :=
  loadReg .ldBD .b (.reg .d) s

/-- R120: LD B,E. -/
def execLdBE (s : State) : Out :=
  loadReg .ldBE .b (.reg .e) s

/-- R120: LD B,H. -/
def execLdBH (s : State) : Out :=
  loadReg .ldBH .b (.reg .h) s

/-- R120: LD B,L. -/
def execLdBL (s : State) : Out :=
  loadReg .ldBL .b (.reg .l) s

/-- R121: LD B,(HL). -/
def execLdBMhl (s : State) : Out :=
  loadReg .ldBMhl .b .mhl s

/-- R120: LD B,A. -/
def execLdBA (s : State) : Out :=
  loadReg .ldBA .b (.reg .a) s

/-- R120: LD C,B. -/
def execLdCB (s : State) : Out :=
  loadReg .ldCB .c (.reg .b) s

/-- R120: LD C,C. -/
def execLdCC (s : State) : Out :=
  loadReg .ldCC .c (.reg .c) s

/-- R120: LD C,D. -/
def execLdCD (s : State) : Out :=
  loadReg .ldCD .c (.reg .d) s

/-- R120: LD C,E. -/
def execLdCE (s : State) : Out :=
  loadReg .ldCE .c (.reg .e) s

/-- R120: LD C,H. -/
def execLdCH (s : State) : Out :=
  loadReg .ldCH .c (.reg .h) s

/-- R120: LD C,L. -/
def execLdCL (s : State) : Out :=
  loadReg .ldCL .c (.reg .l) s

/-- R121: LD C,(HL). -/
def execLdCMhl (s : State) : Out :=
  loadReg .ldCMhl .c .mhl s

/-- R120: LD C,A. -/
def execLdCA (s : State) : Out :=
  loadReg .ldCA .c (.reg .a) s

/-- R120: LD D,B. -/
def execLdDB (s : State) : Out :=
  loadReg .ldDB .d (.reg .b) s

/-- R120: LD D,C. -/
def execLdDC (s : State) : Out :=
  loadReg .ldDC .d (.reg .c) s

/-- R120: LD D,D. -/
def execLdDD (s : State) : Out :=
  loadReg .ldDD .d (.reg .d) s

/-- R120: LD D,E. -/
def execLdDE (s : State) : Out :=
  loadReg .ldDE .d (.reg .e) s

/-- R120: LD D,H. -/
def execLdDH (s : State) : Out :=
  loadReg .ldDH .d (.reg .h) s

/-- R120: LD D,L. -/
def execLdDL (s : State) : Out :=
  loadReg .ldDL .d (.reg .l) s

/-- R121: LD D,(HL). -/
def execLdDMhl (s : State) : Out :=
  loadReg .ldDMhl .d .mhl s

/-- R120: LD D,A. -/
def execLdDA (s : State) : Out :=
  loadReg .ldDA .d (.reg .a) s

/-- R120: LD E,B. -/
def execLdEB (s : State) : Out :=
  loadReg .ldEB .e (.reg .b) s

/-- R120: LD E,C. -/
def execLdEC (s : State) : Out :=
  loadReg .ldEC .e (.reg .c) s

/-- R120: LD E,D. -/
def execLdED (s : State) : Out :=
  loadReg .ldED .e (.reg .d) s

/-- R120: LD E,E. -/
def execLdEE (s : State) : Out :=
  loadReg .ldEE .e (.reg .e) s

/-- R120: LD E,H. -/
def execLdEH (s : State) : Out :=
  loadReg .ldEH .e (.reg .h) s

/-- R120: LD E,L. -/
def execLdEL (s : State) : Out :=
  loadReg .ldEL .e (.reg .l) s

/-- R121: LD E,(HL). -/
def execLdEMhl (s : State) : Out :=
  loadReg .ldEMhl .e .mhl s

/-- R120: LD E,A. -/
def execLdEA (s : State) : Out :=
  loadReg .ldEA .e (.reg .a) s

/-- R120: LD H,B. -/
def execLdHB (s : State) : Out :=
  loadReg .ldHB .h (.reg .b) s

/-- R120: LD H,C. -/
def execLdHC (s : State) : Out :=
  loadReg .ldHC .h (.reg .c) s

/-- R120: LD H,D. -/
def execLdHD (s : State) : Out :=
  loadReg .ldHD .h (.reg .d) s

/-- R120: LD H,E. -/
def execLdHE (s : State) : Out :=
  loadReg .ldHE .h (.reg .e) s

/-- R120: LD H,H. -/
def execLdHH (s : State) : Out :=
  loadReg .ldHH .h (.reg .h) s

/-- R120: LD H,L. -/
def execLdHL (s : State) : Out :=
  loadReg .ldHL .h (.reg .l) s

/-- R121: LD H,(HL). -/
def execLdHMhl (s : State) : Out :=
  loadReg .ldHMhl .h .mhl s

/-- R120: LD H,A. -/
def execLdHA (s : State) : Out :=
  loadReg .ldHA .h (.reg .a) s

/-- R120: LD L,B. -/
def execLdLB (s : State) : Out :=
  loadReg .ldLB .l (.reg .b) s

/-- R120: LD L,C. -/
def execLdLC (s : State) : Out :=
  loadReg .ldLC .l (.reg .c) s

/-- R120: LD L,D. -/
def execLdLD (s : State) : Out :=
  loadReg .ldLD .l (.reg .d) s

/-- R120: LD L,E. -/
def execLdLE (s : State) : Out :=
  loadReg .ldLE .l (.reg .e) s

/-- R120: LD L,H. -/
def execLdLH (s : State) : Out :=
  loadReg .ldLH .l (.reg .h) s

/-- R120: LD L,L. -/
def execLdLL (s : State) : Out :=
  loadReg .ldLL .l (.reg .l) s

/-- R121: LD L,(HL). -/
def execLdLMhl (s : State) : Out :=
  loadReg .ldLMhl .l .mhl s

/-- R120: LD L,A. -/
def execLdLA (s : State) : Out :=
  loadReg .ldLA .l (.reg .a) s

/-- R122: LD (HL),B. -/
def execLdMhlB (s : State) : Out :=
  storeByte .ldMhlB s.hl s.b 1 s

/-- R122: LD (HL),C. -/
def execLdMhlC (s : State) : Out :=
  storeByte .ldMhlC s.hl s.c 1 s

/-- R122: LD (HL),D. -/
def execLdMhlD (s : State) : Out :=
  storeByte .ldMhlD s.hl s.d 1 s

/-- R122: LD (HL),E. -/
def execLdMhlE (s : State) : Out :=
  storeByte .ldMhlE s.hl s.e 1 s

/-- R122: LD (HL),H. -/
def execLdMhlH (s : State) : Out :=
  storeByte .ldMhlH s.hl s.h 1 s

/-- R122: LD (HL),L. -/
def execLdMhlL (s : State) : Out :=
  storeByte .ldMhlL s.hl s.l 1 s

/-- R122: LD (HL),A. -/
def execLdMhlA (s : State) : Out :=
  storeByte .ldMhlA s.hl s.a 1 s

/-- R120: LD A,B. -/
def execLdAB (s : State) : Out :=
  loadReg .ldAB .a (.reg .b) s

/-- R120: LD A,C. -/
def execLdAC (s : State) : Out :=
  loadReg .ldAC .a (.reg .c) s

/-- R120: LD A,D. -/
def execLdAD (s : State) : Out :=
  loadReg .ldAD .a (.reg .d) s

/-- R120: LD A,E. -/
def execLdAE (s : State) : Out :=
  loadReg .ldAE .a (.reg .e) s

/-- R120: LD A,H. -/
def execLdAH (s : State) : Out :=
  loadReg .ldAH .a (.reg .h) s

/-- R120: LD A,L. -/
def execLdAL (s : State) : Out :=
  loadReg .ldAL .a (.reg .l) s

/-- R121: LD A,(HL). -/
def execLdAMhl (s : State) : Out :=
  loadReg .ldAMhl .a .mhl s

/-- R120: LD A,A. -/
def execLdAA (s : State) : Out :=
  loadReg .ldAA .a (.reg .a) s

/-- R132: LDH (a8),A. -/
def execLdhMa8A (s : State) : Out :=
  storeByte .ldhMa8A (highPage s.imm8.1) s.a 2 s.imm8.2

/-- R134: LD (C),A. -/
def execLdMcA (s : State) : Out :=
  storeByte .ldMcA (highPage s.c) s.a 1 s

/-- R130: LD (a16),A. -/
def execLdMa16A (s : State) : Out :=
  storeByte .ldMa16A s.imm16.1 s.a 3 s.imm16.2

/-- R131: LDH A,(a8). -/
def execLdhAMa8 (s : State) : Out :=
  loadA .ldhAMa8 (highPage s.imm8.1) 2 s.imm8.2

/-- R133: LD A,(C). -/
def execLdAMc (s : State) : Out :=
  loadA .ldAMc (highPage s.c) 1 s

/-- R129: LD A,(a16). -/
def execLdAMa16 (s : State) : Out :=
  loadA .ldAMa16 s.imm16.1 3 s.imm16.2

end Sys2Proof.Machine
end

