-- ==== Sys2Proof/Machine/Rotate.lean ====
section
/-! DEFINITION. The rotates of A (spec/44_rotate_shift_bit.md R220 to R223) and the prefixed rotates, shifts and SWAP (R224 to
R240). -/

namespace Sys2Proof.Machine

/-- A rotate of A (R220 to R223): z cleared whatever the result. -/
def rotA (i : Instr) (op : RotOp) (s : State) : Out :=
  let o := rotEval op s.a s.cf
  .next (((s.setReg .a o.result).setFlags false false false o.c).finish (s.pc + 1) (s.params.cost i))

/-- A prefixed rotate, shift or SWAP (R224 to R240): one read, then one write. -/
def rotOpnd (i : Instr) (op : RotOp) (x : Opnd) (s : State) : Out :=
  let v := s.readOpnd x
  let o := rotEval op v.1 s.cf
  .next (((v.2.writeOpnd x o.result).putFlags o).finish (s.pc + 2) (s.params.cost i))

/-- R220: RLCA. -/
def execRlca (s : State) : Out :=
  rotA .rlca .rlc s

/-- R221: RRCA. -/
def execRrca (s : State) : Out :=
  rotA .rrca .rrc s

/-- R222: RLA. -/
def execRla (s : State) : Out :=
  rotA .rla .rl s

/-- R223: RRA. -/
def execRra (s : State) : Out :=
  rotA .rra .rr s

/-- R225: RLC B. -/
def execCbRlcB (s : State) : Out :=
  rotOpnd .cbRlcB .rlc (.reg .b) s

/-- R225: RLC C. -/
def execCbRlcC (s : State) : Out :=
  rotOpnd .cbRlcC .rlc (.reg .c) s

/-- R225: RLC D. -/
def execCbRlcD (s : State) : Out :=
  rotOpnd .cbRlcD .rlc (.reg .d) s

/-- R225: RLC E. -/
def execCbRlcE (s : State) : Out :=
  rotOpnd .cbRlcE .rlc (.reg .e) s

/-- R225: RLC H. -/
def execCbRlcH (s : State) : Out :=
  rotOpnd .cbRlcH .rlc (.reg .h) s

/-- R225: RLC L. -/
def execCbRlcL (s : State) : Out :=
  rotOpnd .cbRlcL .rlc (.reg .l) s

/-- R226: RLC (HL). -/
def execCbRlcMhl (s : State) : Out :=
  rotOpnd .cbRlcMhl .rlc .mhl s

/-- R225: RLC A. -/
def execCbRlcA (s : State) : Out :=
  rotOpnd .cbRlcA .rlc (.reg .a) s

/-- R227: RRC B. -/
def execCbRrcB (s : State) : Out :=
  rotOpnd .cbRrcB .rrc (.reg .b) s

/-- R227: RRC C. -/
def execCbRrcC (s : State) : Out :=
  rotOpnd .cbRrcC .rrc (.reg .c) s

/-- R227: RRC D. -/
def execCbRrcD (s : State) : Out :=
  rotOpnd .cbRrcD .rrc (.reg .d) s

/-- R227: RRC E. -/
def execCbRrcE (s : State) : Out :=
  rotOpnd .cbRrcE .rrc (.reg .e) s

/-- R227: RRC H. -/
def execCbRrcH (s : State) : Out :=
  rotOpnd .cbRrcH .rrc (.reg .h) s

/-- R227: RRC L. -/
def execCbRrcL (s : State) : Out :=
  rotOpnd .cbRrcL .rrc (.reg .l) s

/-- R228: RRC (HL). -/
def execCbRrcMhl (s : State) : Out :=
  rotOpnd .cbRrcMhl .rrc .mhl s

/-- R227: RRC A. -/
def execCbRrcA (s : State) : Out :=
  rotOpnd .cbRrcA .rrc (.reg .a) s

/-- R229: RL B. -/
def execCbRlB (s : State) : Out :=
  rotOpnd .cbRlB .rl (.reg .b) s

/-- R229: RL C. -/
def execCbRlC (s : State) : Out :=
  rotOpnd .cbRlC .rl (.reg .c) s

/-- R229: RL D. -/
def execCbRlD (s : State) : Out :=
  rotOpnd .cbRlD .rl (.reg .d) s

/-- R229: RL E. -/
def execCbRlE (s : State) : Out :=
  rotOpnd .cbRlE .rl (.reg .e) s

/-- R229: RL H. -/
def execCbRlH (s : State) : Out :=
  rotOpnd .cbRlH .rl (.reg .h) s

/-- R229: RL L. -/
def execCbRlL (s : State) : Out :=
  rotOpnd .cbRlL .rl (.reg .l) s

/-- R230: RL (HL). -/
def execCbRlMhl (s : State) : Out :=
  rotOpnd .cbRlMhl .rl .mhl s

/-- R229: RL A. -/
def execCbRlA (s : State) : Out :=
  rotOpnd .cbRlA .rl (.reg .a) s

/-- R231: RR B. -/
def execCbRrB (s : State) : Out :=
  rotOpnd .cbRrB .rr (.reg .b) s

/-- R231: RR C. -/
def execCbRrC (s : State) : Out :=
  rotOpnd .cbRrC .rr (.reg .c) s

/-- R231: RR D. -/
def execCbRrD (s : State) : Out :=
  rotOpnd .cbRrD .rr (.reg .d) s

/-- R231: RR E. -/
def execCbRrE (s : State) : Out :=
  rotOpnd .cbRrE .rr (.reg .e) s

/-- R231: RR H. -/
def execCbRrH (s : State) : Out :=
  rotOpnd .cbRrH .rr (.reg .h) s

/-- R231: RR L. -/
def execCbRrL (s : State) : Out :=
  rotOpnd .cbRrL .rr (.reg .l) s

/-- R232: RR (HL). -/
def execCbRrMhl (s : State) : Out :=
  rotOpnd .cbRrMhl .rr .mhl s

/-- R231: RR A. -/
def execCbRrA (s : State) : Out :=
  rotOpnd .cbRrA .rr (.reg .a) s

/-- R233: SLA B. -/
def execCbSlaB (s : State) : Out :=
  rotOpnd .cbSlaB .sla (.reg .b) s

/-- R233: SLA C. -/
def execCbSlaC (s : State) : Out :=
  rotOpnd .cbSlaC .sla (.reg .c) s

/-- R233: SLA D. -/
def execCbSlaD (s : State) : Out :=
  rotOpnd .cbSlaD .sla (.reg .d) s

/-- R233: SLA E. -/
def execCbSlaE (s : State) : Out :=
  rotOpnd .cbSlaE .sla (.reg .e) s

/-- R233: SLA H. -/
def execCbSlaH (s : State) : Out :=
  rotOpnd .cbSlaH .sla (.reg .h) s

/-- R233: SLA L. -/
def execCbSlaL (s : State) : Out :=
  rotOpnd .cbSlaL .sla (.reg .l) s

/-- R234: SLA (HL). -/
def execCbSlaMhl (s : State) : Out :=
  rotOpnd .cbSlaMhl .sla .mhl s

/-- R233: SLA A. -/
def execCbSlaA (s : State) : Out :=
  rotOpnd .cbSlaA .sla (.reg .a) s

/-- R235: SRA B. -/
def execCbSraB (s : State) : Out :=
  rotOpnd .cbSraB .sra (.reg .b) s

/-- R235: SRA C. -/
def execCbSraC (s : State) : Out :=
  rotOpnd .cbSraC .sra (.reg .c) s

/-- R235: SRA D. -/
def execCbSraD (s : State) : Out :=
  rotOpnd .cbSraD .sra (.reg .d) s

/-- R235: SRA E. -/
def execCbSraE (s : State) : Out :=
  rotOpnd .cbSraE .sra (.reg .e) s

/-- R235: SRA H. -/
def execCbSraH (s : State) : Out :=
  rotOpnd .cbSraH .sra (.reg .h) s

/-- R235: SRA L. -/
def execCbSraL (s : State) : Out :=
  rotOpnd .cbSraL .sra (.reg .l) s

/-- R236: SRA (HL). -/
def execCbSraMhl (s : State) : Out :=
  rotOpnd .cbSraMhl .sra .mhl s

/-- R235: SRA A. -/
def execCbSraA (s : State) : Out :=
  rotOpnd .cbSraA .sra (.reg .a) s

/-- R237: SWAP B. -/
def execCbSwapB (s : State) : Out :=
  rotOpnd .cbSwapB .swap (.reg .b) s

/-- R237: SWAP C. -/
def execCbSwapC (s : State) : Out :=
  rotOpnd .cbSwapC .swap (.reg .c) s

/-- R237: SWAP D. -/
def execCbSwapD (s : State) : Out :=
  rotOpnd .cbSwapD .swap (.reg .d) s

/-- R237: SWAP E. -/
def execCbSwapE (s : State) : Out :=
  rotOpnd .cbSwapE .swap (.reg .e) s

/-- R237: SWAP H. -/
def execCbSwapH (s : State) : Out :=
  rotOpnd .cbSwapH .swap (.reg .h) s

/-- R237: SWAP L. -/
def execCbSwapL (s : State) : Out :=
  rotOpnd .cbSwapL .swap (.reg .l) s

/-- R238: SWAP (HL). -/
def execCbSwapMhl (s : State) : Out :=
  rotOpnd .cbSwapMhl .swap .mhl s

/-- R237: SWAP A. -/
def execCbSwapA (s : State) : Out :=
  rotOpnd .cbSwapA .swap (.reg .a) s

/-- R239: SRL B. -/
def execCbSrlB (s : State) : Out :=
  rotOpnd .cbSrlB .srl (.reg .b) s

/-- R239: SRL C. -/
def execCbSrlC (s : State) : Out :=
  rotOpnd .cbSrlC .srl (.reg .c) s

/-- R239: SRL D. -/
def execCbSrlD (s : State) : Out :=
  rotOpnd .cbSrlD .srl (.reg .d) s

/-- R239: SRL E. -/
def execCbSrlE (s : State) : Out :=
  rotOpnd .cbSrlE .srl (.reg .e) s

/-- R239: SRL H. -/
def execCbSrlH (s : State) : Out :=
  rotOpnd .cbSrlH .srl (.reg .h) s

/-- R239: SRL L. -/
def execCbSrlL (s : State) : Out :=
  rotOpnd .cbSrlL .srl (.reg .l) s

/-- R240: SRL (HL). -/
def execCbSrlMhl (s : State) : Out :=
  rotOpnd .cbSrlMhl .srl .mhl s

/-- R239: SRL A. -/
def execCbSrlA (s : State) : Out :=
  rotOpnd .cbSrlA .srl (.reg .a) s

end Sys2Proof.Machine
end

