-- ==== Sys2Proof/Machine/Dispatch.lean ====
section
/-! DEFINITION. Step S6 (spec/60_exceptions.md R316): the meaning of each of the 500 instructions, one arm each. -/

namespace Sys2Proof.Machine

def exec (i : Instr) (s : State) : Host.Outcome State Fault Refusal :=
  match i with
  -- R270
  | .nop => Sys2Proof.Machine.execNop s
  -- R152
  | .ldBcD16 => Sys2Proof.Machine.execLdBcD16 s
  | .ldDeD16 => Sys2Proof.Machine.execLdDeD16 s
  | .ldHlD16 => Sys2Proof.Machine.execLdHlD16 s
  | .ldSpD16 => Sys2Proof.Machine.execLdSpD16 s
  -- R127
  | .ldMbcA => Sys2Proof.Machine.execLdMbcA s
  -- R211
  | .incBc => Sys2Proof.Machine.execIncBc s
  | .incDe => Sys2Proof.Machine.execIncDe s
  | .incHl => Sys2Proof.Machine.execIncHl s
  | .incSp => Sys2Proof.Machine.execIncSp s
  -- R196
  | .incB => Sys2Proof.Machine.execIncB s
  | .incC => Sys2Proof.Machine.execIncC s
  | .incD => Sys2Proof.Machine.execIncD s
  | .incE => Sys2Proof.Machine.execIncE s
  | .incH => Sys2Proof.Machine.execIncH s
  | .incL => Sys2Proof.Machine.execIncL s
  | .incA => Sys2Proof.Machine.execIncA s
  -- R198
  | .decB => Sys2Proof.Machine.execDecB s
  | .decC => Sys2Proof.Machine.execDecC s
  | .decD => Sys2Proof.Machine.execDecD s
  | .decE => Sys2Proof.Machine.execDecE s
  | .decH => Sys2Proof.Machine.execDecH s
  | .decL => Sys2Proof.Machine.execDecL s
  | .decA => Sys2Proof.Machine.execDecA s
  -- R123
  | .ldBD8 => Sys2Proof.Machine.execLdBD8 s
  | .ldCD8 => Sys2Proof.Machine.execLdCD8 s
  | .ldDD8 => Sys2Proof.Machine.execLdDD8 s
  | .ldED8 => Sys2Proof.Machine.execLdED8 s
  | .ldHD8 => Sys2Proof.Machine.execLdHD8 s
  | .ldLD8 => Sys2Proof.Machine.execLdLD8 s
  | .ldAD8 => Sys2Proof.Machine.execLdAD8 s
  -- R220
  | .rlca => Sys2Proof.Machine.execRlca s
  -- R153
  | .ldMa16Sp => Sys2Proof.Machine.execLdMa16Sp s
  -- R210
  | .addHlBc => Sys2Proof.Machine.execAddHlBc s
  | .addHlDe => Sys2Proof.Machine.execAddHlDe s
  | .addHlHl => Sys2Proof.Machine.execAddHlHl s
  | .addHlSp => Sys2Proof.Machine.execAddHlSp s
  -- R125
  | .ldAMbc => Sys2Proof.Machine.execLdAMbc s
  -- R212
  | .decBc => Sys2Proof.Machine.execDecBc s
  | .decDe => Sys2Proof.Machine.execDecDe s
  | .decHl => Sys2Proof.Machine.execDecHl s
  | .decSp => Sys2Proof.Machine.execDecSp s
  -- R221
  | .rrca => Sys2Proof.Machine.execRrca s
  -- R274
  | .stop => Sys2Proof.Machine.execStop s
  -- R128
  | .ldMdeA => Sys2Proof.Machine.execLdMdeA s
  -- R222
  | .rla => Sys2Proof.Machine.execRla s
  -- R253
  | .jrR8 => Sys2Proof.Machine.execJrR8 s
  -- R126
  | .ldAMde => Sys2Proof.Machine.execLdAMde s
  -- R223
  | .rra => Sys2Proof.Machine.execRra s
  -- R254
  | .jrNzR8 => Sys2Proof.Machine.execJrNzR8 s
  | .jrZR8 => Sys2Proof.Machine.execJrZR8 s
  | .jrNcR8 => Sys2Proof.Machine.execJrNcR8 s
  | .jrCR8 => Sys2Proof.Machine.execJrCR8 s
  -- R135
  | .ldMhliA => Sys2Proof.Machine.execLdMhliA s
  -- R200
  | .daa => Sys2Proof.Machine.execDaa s
  -- R137
  | .ldAMhli => Sys2Proof.Machine.execLdAMhli s
  -- R201
  | .cpl => Sys2Proof.Machine.execCpl s
  -- R136
  | .ldMhldA => Sys2Proof.Machine.execLdMhldA s
  -- R197
  | .incMhl => Sys2Proof.Machine.execIncMhl s
  -- R199
  | .decMhl => Sys2Proof.Machine.execDecMhl s
  -- R124
  | .ldMhlD8 => Sys2Proof.Machine.execLdMhlD8 s
  -- R202
  | .scf => Sys2Proof.Machine.execScf s
  -- R138
  | .ldAMhld => Sys2Proof.Machine.execLdAMhld s
  -- R203
  | .ccf => Sys2Proof.Machine.execCcf s
  -- R120
  | .ldBB => Sys2Proof.Machine.execLdBB s
  | .ldBC => Sys2Proof.Machine.execLdBC s
  | .ldBD => Sys2Proof.Machine.execLdBD s
  | .ldBE => Sys2Proof.Machine.execLdBE s
  | .ldBH => Sys2Proof.Machine.execLdBH s
  | .ldBL => Sys2Proof.Machine.execLdBL s
  | .ldBA => Sys2Proof.Machine.execLdBA s
  | .ldCB => Sys2Proof.Machine.execLdCB s
  | .ldCC => Sys2Proof.Machine.execLdCC s
  | .ldCD => Sys2Proof.Machine.execLdCD s
  | .ldCE => Sys2Proof.Machine.execLdCE s
  | .ldCH => Sys2Proof.Machine.execLdCH s
  | .ldCL => Sys2Proof.Machine.execLdCL s
  | .ldCA => Sys2Proof.Machine.execLdCA s
  | .ldDB => Sys2Proof.Machine.execLdDB s
  | .ldDC => Sys2Proof.Machine.execLdDC s
  | .ldDD => Sys2Proof.Machine.execLdDD s
  | .ldDE => Sys2Proof.Machine.execLdDE s
  | .ldDH => Sys2Proof.Machine.execLdDH s
  | .ldDL => Sys2Proof.Machine.execLdDL s
  | .ldDA => Sys2Proof.Machine.execLdDA s
  | .ldEB => Sys2Proof.Machine.execLdEB s
  | .ldEC => Sys2Proof.Machine.execLdEC s
  | .ldED => Sys2Proof.Machine.execLdED s
  | .ldEE => Sys2Proof.Machine.execLdEE s
  | .ldEH => Sys2Proof.Machine.execLdEH s
  | .ldEL => Sys2Proof.Machine.execLdEL s
  | .ldEA => Sys2Proof.Machine.execLdEA s
  | .ldHB => Sys2Proof.Machine.execLdHB s
  | .ldHC => Sys2Proof.Machine.execLdHC s
  | .ldHD => Sys2Proof.Machine.execLdHD s
  | .ldHE => Sys2Proof.Machine.execLdHE s
  | .ldHH => Sys2Proof.Machine.execLdHH s
  | .ldHL => Sys2Proof.Machine.execLdHL s
  | .ldHA => Sys2Proof.Machine.execLdHA s
  | .ldLB => Sys2Proof.Machine.execLdLB s
  | .ldLC => Sys2Proof.Machine.execLdLC s
  | .ldLD => Sys2Proof.Machine.execLdLD s
  | .ldLE => Sys2Proof.Machine.execLdLE s
  | .ldLH => Sys2Proof.Machine.execLdLH s
  | .ldLL => Sys2Proof.Machine.execLdLL s
  | .ldLA => Sys2Proof.Machine.execLdLA s
  | .ldAB => Sys2Proof.Machine.execLdAB s
  | .ldAC => Sys2Proof.Machine.execLdAC s
  | .ldAD => Sys2Proof.Machine.execLdAD s
  | .ldAE => Sys2Proof.Machine.execLdAE s
  | .ldAH => Sys2Proof.Machine.execLdAH s
  | .ldAL => Sys2Proof.Machine.execLdAL s
  | .ldAA => Sys2Proof.Machine.execLdAA s
  -- R121
  | .ldBMhl => Sys2Proof.Machine.execLdBMhl s
  | .ldCMhl => Sys2Proof.Machine.execLdCMhl s
  | .ldDMhl => Sys2Proof.Machine.execLdDMhl s
  | .ldEMhl => Sys2Proof.Machine.execLdEMhl s
  | .ldHMhl => Sys2Proof.Machine.execLdHMhl s
  | .ldLMhl => Sys2Proof.Machine.execLdLMhl s
  | .ldAMhl => Sys2Proof.Machine.execLdAMhl s
  -- R122
  | .ldMhlB => Sys2Proof.Machine.execLdMhlB s
  | .ldMhlC => Sys2Proof.Machine.execLdMhlC s
  | .ldMhlD => Sys2Proof.Machine.execLdMhlD s
  | .ldMhlE => Sys2Proof.Machine.execLdMhlE s
  | .ldMhlH => Sys2Proof.Machine.execLdMhlH s
  | .ldMhlL => Sys2Proof.Machine.execLdMhlL s
  | .ldMhlA => Sys2Proof.Machine.execLdMhlA s
  -- R271
  | .halt => Sys2Proof.Machine.execHalt s
  -- R172
  | .addAB => Sys2Proof.Machine.execAddAB s
  | .addAC => Sys2Proof.Machine.execAddAC s
  | .addAD => Sys2Proof.Machine.execAddAD s
  | .addAE => Sys2Proof.Machine.execAddAE s
  | .addAH => Sys2Proof.Machine.execAddAH s
  | .addAL => Sys2Proof.Machine.execAddAL s
  | .addAA => Sys2Proof.Machine.execAddAA s
  -- R173
  | .addAMhl => Sys2Proof.Machine.execAddAMhl s
  -- R175
  | .adcAB => Sys2Proof.Machine.execAdcAB s
  | .adcAC => Sys2Proof.Machine.execAdcAC s
  | .adcAD => Sys2Proof.Machine.execAdcAD s
  | .adcAE => Sys2Proof.Machine.execAdcAE s
  | .adcAH => Sys2Proof.Machine.execAdcAH s
  | .adcAL => Sys2Proof.Machine.execAdcAL s
  | .adcAA => Sys2Proof.Machine.execAdcAA s
  -- R176
  | .adcAMhl => Sys2Proof.Machine.execAdcAMhl s
  -- R178
  | .subAB => Sys2Proof.Machine.execSubAB s
  | .subAC => Sys2Proof.Machine.execSubAC s
  | .subAD => Sys2Proof.Machine.execSubAD s
  | .subAE => Sys2Proof.Machine.execSubAE s
  | .subAH => Sys2Proof.Machine.execSubAH s
  | .subAL => Sys2Proof.Machine.execSubAL s
  | .subAA => Sys2Proof.Machine.execSubAA s
  -- R179
  | .subAMhl => Sys2Proof.Machine.execSubAMhl s
  -- R181
  | .sbcAB => Sys2Proof.Machine.execSbcAB s
  | .sbcAC => Sys2Proof.Machine.execSbcAC s
  | .sbcAD => Sys2Proof.Machine.execSbcAD s
  | .sbcAE => Sys2Proof.Machine.execSbcAE s
  | .sbcAH => Sys2Proof.Machine.execSbcAH s
  | .sbcAL => Sys2Proof.Machine.execSbcAL s
  | .sbcAA => Sys2Proof.Machine.execSbcAA s
  -- R182
  | .sbcAMhl => Sys2Proof.Machine.execSbcAMhl s
  -- R184
  | .andAB => Sys2Proof.Machine.execAndAB s
  | .andAC => Sys2Proof.Machine.execAndAC s
  | .andAD => Sys2Proof.Machine.execAndAD s
  | .andAE => Sys2Proof.Machine.execAndAE s
  | .andAH => Sys2Proof.Machine.execAndAH s
  | .andAL => Sys2Proof.Machine.execAndAL s
  | .andAA => Sys2Proof.Machine.execAndAA s
  -- R185
  | .andAMhl => Sys2Proof.Machine.execAndAMhl s
  -- R187
  | .xorAB => Sys2Proof.Machine.execXorAB s
  | .xorAC => Sys2Proof.Machine.execXorAC s
  | .xorAD => Sys2Proof.Machine.execXorAD s
  | .xorAE => Sys2Proof.Machine.execXorAE s
  | .xorAH => Sys2Proof.Machine.execXorAH s
  | .xorAL => Sys2Proof.Machine.execXorAL s
  | .xorAA => Sys2Proof.Machine.execXorAA s
  -- R188
  | .xorAMhl => Sys2Proof.Machine.execXorAMhl s
  -- R190
  | .orAB => Sys2Proof.Machine.execOrAB s
  | .orAC => Sys2Proof.Machine.execOrAC s
  | .orAD => Sys2Proof.Machine.execOrAD s
  | .orAE => Sys2Proof.Machine.execOrAE s
  | .orAH => Sys2Proof.Machine.execOrAH s
  | .orAL => Sys2Proof.Machine.execOrAL s
  | .orAA => Sys2Proof.Machine.execOrAA s
  -- R191
  | .orAMhl => Sys2Proof.Machine.execOrAMhl s
  -- R193
  | .cpAB => Sys2Proof.Machine.execCpAB s
  | .cpAC => Sys2Proof.Machine.execCpAC s
  | .cpAD => Sys2Proof.Machine.execCpAD s
  | .cpAE => Sys2Proof.Machine.execCpAE s
  | .cpAH => Sys2Proof.Machine.execCpAH s
  | .cpAL => Sys2Proof.Machine.execCpAL s
  | .cpAA => Sys2Proof.Machine.execCpAA s
  -- R194
  | .cpAMhl => Sys2Proof.Machine.execCpAMhl s
  -- R258
  | .retNz => Sys2Proof.Machine.execRetNz s
  | .retZ => Sys2Proof.Machine.execRetZ s
  | .retNc => Sys2Proof.Machine.execRetNc s
  | .retC => Sys2Proof.Machine.execRetC s
  -- R157
  | .popBc => Sys2Proof.Machine.execPopBc s
  | .popDe => Sys2Proof.Machine.execPopDe s
  | .popHl => Sys2Proof.Machine.execPopHl s
  -- R251
  | .jpNzA16 => Sys2Proof.Machine.execJpNzA16 s
  | .jpZA16 => Sys2Proof.Machine.execJpZA16 s
  | .jpNcA16 => Sys2Proof.Machine.execJpNcA16 s
  | .jpCA16 => Sys2Proof.Machine.execJpCA16 s
  -- R250
  | .jpA16 => Sys2Proof.Machine.execJpA16 s
  -- R256
  | .callNzA16 => Sys2Proof.Machine.execCallNzA16 s
  | .callZA16 => Sys2Proof.Machine.execCallZA16 s
  | .callNcA16 => Sys2Proof.Machine.execCallNcA16 s
  | .callCA16 => Sys2Proof.Machine.execCallCA16 s
  -- R156
  | .pushBc => Sys2Proof.Machine.execPushBc s
  | .pushDe => Sys2Proof.Machine.execPushDe s
  | .pushHl => Sys2Proof.Machine.execPushHl s
  | .pushAf => Sys2Proof.Machine.execPushAf s
  -- R174
  | .addAD8 => Sys2Proof.Machine.execAddAD8 s
  -- R260
  | .rst00 => Sys2Proof.Machine.execRst00 s
  | .rst08 => Sys2Proof.Machine.execRst08 s
  | .rst10 => Sys2Proof.Machine.execRst10 s
  | .rst18 => Sys2Proof.Machine.execRst18 s
  | .rst20 => Sys2Proof.Machine.execRst20 s
  | .rst28 => Sys2Proof.Machine.execRst28 s
  | .rst30 => Sys2Proof.Machine.execRst30 s
  | .rst38 => Sys2Proof.Machine.execRst38 s
  -- R257
  | .ret => Sys2Proof.Machine.execRet s
  -- R255
  | .callA16 => Sys2Proof.Machine.execCallA16 s
  -- R177
  | .adcAD8 => Sys2Proof.Machine.execAdcAD8 s
  -- R180
  | .subAD8 => Sys2Proof.Machine.execSubAD8 s
  -- R259
  | .reti => Sys2Proof.Machine.execReti s
  -- R183
  | .sbcAD8 => Sys2Proof.Machine.execSbcAD8 s
  -- R132
  | .ldhMa8A => Sys2Proof.Machine.execLdhMa8A s
  -- R134
  | .ldMcA => Sys2Proof.Machine.execLdMcA s
  -- R186
  | .andAD8 => Sys2Proof.Machine.execAndAD8 s
  -- R213
  | .addSpR8 => Sys2Proof.Machine.execAddSpR8 s
  -- R252
  | .jpHl => Sys2Proof.Machine.execJpHl s
  -- R130
  | .ldMa16A => Sys2Proof.Machine.execLdMa16A s
  -- R189
  | .xorAD8 => Sys2Proof.Machine.execXorAD8 s
  -- R131
  | .ldhAMa8 => Sys2Proof.Machine.execLdhAMa8 s
  -- R158
  | .popAf => Sys2Proof.Machine.execPopAf s
  -- R133
  | .ldAMc => Sys2Proof.Machine.execLdAMc s
  -- R272
  | .di => Sys2Proof.Machine.execDi s
  -- R192
  | .orAD8 => Sys2Proof.Machine.execOrAD8 s
  -- R155
  | .ldHlSpR8 => Sys2Proof.Machine.execLdHlSpR8 s
  -- R154
  | .ldSpHl => Sys2Proof.Machine.execLdSpHl s
  -- R129
  | .ldAMa16 => Sys2Proof.Machine.execLdAMa16 s
  -- R273
  | .ei => Sys2Proof.Machine.execEi s
  -- R195
  | .cpAD8 => Sys2Proof.Machine.execCpAD8 s
  -- R225
  | .cbRlcB => Sys2Proof.Machine.execCbRlcB s
  | .cbRlcC => Sys2Proof.Machine.execCbRlcC s
  | .cbRlcD => Sys2Proof.Machine.execCbRlcD s
  | .cbRlcE => Sys2Proof.Machine.execCbRlcE s
  | .cbRlcH => Sys2Proof.Machine.execCbRlcH s
  | .cbRlcL => Sys2Proof.Machine.execCbRlcL s
  | .cbRlcA => Sys2Proof.Machine.execCbRlcA s
  -- R226
  | .cbRlcMhl => Sys2Proof.Machine.execCbRlcMhl s
  -- R227
  | .cbRrcB => Sys2Proof.Machine.execCbRrcB s
  | .cbRrcC => Sys2Proof.Machine.execCbRrcC s
  | .cbRrcD => Sys2Proof.Machine.execCbRrcD s
  | .cbRrcE => Sys2Proof.Machine.execCbRrcE s
  | .cbRrcH => Sys2Proof.Machine.execCbRrcH s
  | .cbRrcL => Sys2Proof.Machine.execCbRrcL s
  | .cbRrcA => Sys2Proof.Machine.execCbRrcA s
  -- R228
  | .cbRrcMhl => Sys2Proof.Machine.execCbRrcMhl s
  -- R229
  | .cbRlB => Sys2Proof.Machine.execCbRlB s
  | .cbRlC => Sys2Proof.Machine.execCbRlC s
  | .cbRlD => Sys2Proof.Machine.execCbRlD s
  | .cbRlE => Sys2Proof.Machine.execCbRlE s
  | .cbRlH => Sys2Proof.Machine.execCbRlH s
  | .cbRlL => Sys2Proof.Machine.execCbRlL s
  | .cbRlA => Sys2Proof.Machine.execCbRlA s
  -- R230
  | .cbRlMhl => Sys2Proof.Machine.execCbRlMhl s
  -- R231
  | .cbRrB => Sys2Proof.Machine.execCbRrB s
  | .cbRrC => Sys2Proof.Machine.execCbRrC s
  | .cbRrD => Sys2Proof.Machine.execCbRrD s
  | .cbRrE => Sys2Proof.Machine.execCbRrE s
  | .cbRrH => Sys2Proof.Machine.execCbRrH s
  | .cbRrL => Sys2Proof.Machine.execCbRrL s
  | .cbRrA => Sys2Proof.Machine.execCbRrA s
  -- R232
  | .cbRrMhl => Sys2Proof.Machine.execCbRrMhl s
  -- R233
  | .cbSlaB => Sys2Proof.Machine.execCbSlaB s
  | .cbSlaC => Sys2Proof.Machine.execCbSlaC s
  | .cbSlaD => Sys2Proof.Machine.execCbSlaD s
  | .cbSlaE => Sys2Proof.Machine.execCbSlaE s
  | .cbSlaH => Sys2Proof.Machine.execCbSlaH s
  | .cbSlaL => Sys2Proof.Machine.execCbSlaL s
  | .cbSlaA => Sys2Proof.Machine.execCbSlaA s
  -- R234
  | .cbSlaMhl => Sys2Proof.Machine.execCbSlaMhl s
  -- R235
  | .cbSraB => Sys2Proof.Machine.execCbSraB s
  | .cbSraC => Sys2Proof.Machine.execCbSraC s
  | .cbSraD => Sys2Proof.Machine.execCbSraD s
  | .cbSraE => Sys2Proof.Machine.execCbSraE s
  | .cbSraH => Sys2Proof.Machine.execCbSraH s
  | .cbSraL => Sys2Proof.Machine.execCbSraL s
  | .cbSraA => Sys2Proof.Machine.execCbSraA s
  -- R236
  | .cbSraMhl => Sys2Proof.Machine.execCbSraMhl s
  -- R237
  | .cbSwapB => Sys2Proof.Machine.execCbSwapB s
  | .cbSwapC => Sys2Proof.Machine.execCbSwapC s
  | .cbSwapD => Sys2Proof.Machine.execCbSwapD s
  | .cbSwapE => Sys2Proof.Machine.execCbSwapE s
  | .cbSwapH => Sys2Proof.Machine.execCbSwapH s
  | .cbSwapL => Sys2Proof.Machine.execCbSwapL s
  | .cbSwapA => Sys2Proof.Machine.execCbSwapA s
  -- R238
  | .cbSwapMhl => Sys2Proof.Machine.execCbSwapMhl s
  -- R239
  | .cbSrlB => Sys2Proof.Machine.execCbSrlB s
  | .cbSrlC => Sys2Proof.Machine.execCbSrlC s
  | .cbSrlD => Sys2Proof.Machine.execCbSrlD s
  | .cbSrlE => Sys2Proof.Machine.execCbSrlE s
  | .cbSrlH => Sys2Proof.Machine.execCbSrlH s
  | .cbSrlL => Sys2Proof.Machine.execCbSrlL s
  | .cbSrlA => Sys2Proof.Machine.execCbSrlA s
  -- R240
  | .cbSrlMhl => Sys2Proof.Machine.execCbSrlMhl s
  -- R241
  | .bit0B => Sys2Proof.Machine.execBit0B s
  | .bit0C => Sys2Proof.Machine.execBit0C s
  | .bit0D => Sys2Proof.Machine.execBit0D s
  | .bit0E => Sys2Proof.Machine.execBit0E s
  | .bit0H => Sys2Proof.Machine.execBit0H s
  | .bit0L => Sys2Proof.Machine.execBit0L s
  | .bit0A => Sys2Proof.Machine.execBit0A s
  | .bit1B => Sys2Proof.Machine.execBit1B s
  | .bit1C => Sys2Proof.Machine.execBit1C s
  | .bit1D => Sys2Proof.Machine.execBit1D s
  | .bit1E => Sys2Proof.Machine.execBit1E s
  | .bit1H => Sys2Proof.Machine.execBit1H s
  | .bit1L => Sys2Proof.Machine.execBit1L s
  | .bit1A => Sys2Proof.Machine.execBit1A s
  | .bit2B => Sys2Proof.Machine.execBit2B s
  | .bit2C => Sys2Proof.Machine.execBit2C s
  | .bit2D => Sys2Proof.Machine.execBit2D s
  | .bit2E => Sys2Proof.Machine.execBit2E s
  | .bit2H => Sys2Proof.Machine.execBit2H s
  | .bit2L => Sys2Proof.Machine.execBit2L s
  | .bit2A => Sys2Proof.Machine.execBit2A s
  | .bit3B => Sys2Proof.Machine.execBit3B s
  | .bit3C => Sys2Proof.Machine.execBit3C s
  | .bit3D => Sys2Proof.Machine.execBit3D s
  | .bit3E => Sys2Proof.Machine.execBit3E s
  | .bit3H => Sys2Proof.Machine.execBit3H s
  | .bit3L => Sys2Proof.Machine.execBit3L s
  | .bit3A => Sys2Proof.Machine.execBit3A s
  | .bit4B => Sys2Proof.Machine.execBit4B s
  | .bit4C => Sys2Proof.Machine.execBit4C s
  | .bit4D => Sys2Proof.Machine.execBit4D s
  | .bit4E => Sys2Proof.Machine.execBit4E s
  | .bit4H => Sys2Proof.Machine.execBit4H s
  | .bit4L => Sys2Proof.Machine.execBit4L s
  | .bit4A => Sys2Proof.Machine.execBit4A s
  | .bit5B => Sys2Proof.Machine.execBit5B s
  | .bit5C => Sys2Proof.Machine.execBit5C s
  | .bit5D => Sys2Proof.Machine.execBit5D s
  | .bit5E => Sys2Proof.Machine.execBit5E s
  | .bit5H => Sys2Proof.Machine.execBit5H s
  | .bit5L => Sys2Proof.Machine.execBit5L s
  | .bit5A => Sys2Proof.Machine.execBit5A s
  | .bit6B => Sys2Proof.Machine.execBit6B s
  | .bit6C => Sys2Proof.Machine.execBit6C s
  | .bit6D => Sys2Proof.Machine.execBit6D s
  | .bit6E => Sys2Proof.Machine.execBit6E s
  | .bit6H => Sys2Proof.Machine.execBit6H s
  | .bit6L => Sys2Proof.Machine.execBit6L s
  | .bit6A => Sys2Proof.Machine.execBit6A s
  | .bit7B => Sys2Proof.Machine.execBit7B s
  | .bit7C => Sys2Proof.Machine.execBit7C s
  | .bit7D => Sys2Proof.Machine.execBit7D s
  | .bit7E => Sys2Proof.Machine.execBit7E s
  | .bit7H => Sys2Proof.Machine.execBit7H s
  | .bit7L => Sys2Proof.Machine.execBit7L s
  | .bit7A => Sys2Proof.Machine.execBit7A s
  -- R242
  | .bit0Mhl => Sys2Proof.Machine.execBit0Mhl s
  | .bit1Mhl => Sys2Proof.Machine.execBit1Mhl s
  | .bit2Mhl => Sys2Proof.Machine.execBit2Mhl s
  | .bit3Mhl => Sys2Proof.Machine.execBit3Mhl s
  | .bit4Mhl => Sys2Proof.Machine.execBit4Mhl s
  | .bit5Mhl => Sys2Proof.Machine.execBit5Mhl s
  | .bit6Mhl => Sys2Proof.Machine.execBit6Mhl s
  | .bit7Mhl => Sys2Proof.Machine.execBit7Mhl s
  -- R243
  | .res0B => Sys2Proof.Machine.execRes0B s
  | .res0C => Sys2Proof.Machine.execRes0C s
  | .res0D => Sys2Proof.Machine.execRes0D s
  | .res0E => Sys2Proof.Machine.execRes0E s
  | .res0H => Sys2Proof.Machine.execRes0H s
  | .res0L => Sys2Proof.Machine.execRes0L s
  | .res0A => Sys2Proof.Machine.execRes0A s
  | .res1B => Sys2Proof.Machine.execRes1B s
  | .res1C => Sys2Proof.Machine.execRes1C s
  | .res1D => Sys2Proof.Machine.execRes1D s
  | .res1E => Sys2Proof.Machine.execRes1E s
  | .res1H => Sys2Proof.Machine.execRes1H s
  | .res1L => Sys2Proof.Machine.execRes1L s
  | .res1A => Sys2Proof.Machine.execRes1A s
  | .res2B => Sys2Proof.Machine.execRes2B s
  | .res2C => Sys2Proof.Machine.execRes2C s
  | .res2D => Sys2Proof.Machine.execRes2D s
  | .res2E => Sys2Proof.Machine.execRes2E s
  | .res2H => Sys2Proof.Machine.execRes2H s
  | .res2L => Sys2Proof.Machine.execRes2L s
  | .res2A => Sys2Proof.Machine.execRes2A s
  | .res3B => Sys2Proof.Machine.execRes3B s
  | .res3C => Sys2Proof.Machine.execRes3C s
  | .res3D => Sys2Proof.Machine.execRes3D s
  | .res3E => Sys2Proof.Machine.execRes3E s
  | .res3H => Sys2Proof.Machine.execRes3H s
  | .res3L => Sys2Proof.Machine.execRes3L s
  | .res3A => Sys2Proof.Machine.execRes3A s
  | .res4B => Sys2Proof.Machine.execRes4B s
  | .res4C => Sys2Proof.Machine.execRes4C s
  | .res4D => Sys2Proof.Machine.execRes4D s
  | .res4E => Sys2Proof.Machine.execRes4E s
  | .res4H => Sys2Proof.Machine.execRes4H s
  | .res4L => Sys2Proof.Machine.execRes4L s
  | .res4A => Sys2Proof.Machine.execRes4A s
  | .res5B => Sys2Proof.Machine.execRes5B s
  | .res5C => Sys2Proof.Machine.execRes5C s
  | .res5D => Sys2Proof.Machine.execRes5D s
  | .res5E => Sys2Proof.Machine.execRes5E s
  | .res5H => Sys2Proof.Machine.execRes5H s
  | .res5L => Sys2Proof.Machine.execRes5L s
  | .res5A => Sys2Proof.Machine.execRes5A s
  | .res6B => Sys2Proof.Machine.execRes6B s
  | .res6C => Sys2Proof.Machine.execRes6C s
  | .res6D => Sys2Proof.Machine.execRes6D s
  | .res6E => Sys2Proof.Machine.execRes6E s
  | .res6H => Sys2Proof.Machine.execRes6H s
  | .res6L => Sys2Proof.Machine.execRes6L s
  | .res6A => Sys2Proof.Machine.execRes6A s
  | .res7B => Sys2Proof.Machine.execRes7B s
  | .res7C => Sys2Proof.Machine.execRes7C s
  | .res7D => Sys2Proof.Machine.execRes7D s
  | .res7E => Sys2Proof.Machine.execRes7E s
  | .res7H => Sys2Proof.Machine.execRes7H s
  | .res7L => Sys2Proof.Machine.execRes7L s
  | .res7A => Sys2Proof.Machine.execRes7A s
  -- R244
  | .res0Mhl => Sys2Proof.Machine.execRes0Mhl s
  | .res1Mhl => Sys2Proof.Machine.execRes1Mhl s
  | .res2Mhl => Sys2Proof.Machine.execRes2Mhl s
  | .res3Mhl => Sys2Proof.Machine.execRes3Mhl s
  | .res4Mhl => Sys2Proof.Machine.execRes4Mhl s
  | .res5Mhl => Sys2Proof.Machine.execRes5Mhl s
  | .res6Mhl => Sys2Proof.Machine.execRes6Mhl s
  | .res7Mhl => Sys2Proof.Machine.execRes7Mhl s
  -- R245
  | .set0B => Sys2Proof.Machine.execSet0B s
  | .set0C => Sys2Proof.Machine.execSet0C s
  | .set0D => Sys2Proof.Machine.execSet0D s
  | .set0E => Sys2Proof.Machine.execSet0E s
  | .set0H => Sys2Proof.Machine.execSet0H s
  | .set0L => Sys2Proof.Machine.execSet0L s
  | .set0A => Sys2Proof.Machine.execSet0A s
  | .set1B => Sys2Proof.Machine.execSet1B s
  | .set1C => Sys2Proof.Machine.execSet1C s
  | .set1D => Sys2Proof.Machine.execSet1D s
  | .set1E => Sys2Proof.Machine.execSet1E s
  | .set1H => Sys2Proof.Machine.execSet1H s
  | .set1L => Sys2Proof.Machine.execSet1L s
  | .set1A => Sys2Proof.Machine.execSet1A s
  | .set2B => Sys2Proof.Machine.execSet2B s
  | .set2C => Sys2Proof.Machine.execSet2C s
  | .set2D => Sys2Proof.Machine.execSet2D s
  | .set2E => Sys2Proof.Machine.execSet2E s
  | .set2H => Sys2Proof.Machine.execSet2H s
  | .set2L => Sys2Proof.Machine.execSet2L s
  | .set2A => Sys2Proof.Machine.execSet2A s
  | .set3B => Sys2Proof.Machine.execSet3B s
  | .set3C => Sys2Proof.Machine.execSet3C s
  | .set3D => Sys2Proof.Machine.execSet3D s
  | .set3E => Sys2Proof.Machine.execSet3E s
  | .set3H => Sys2Proof.Machine.execSet3H s
  | .set3L => Sys2Proof.Machine.execSet3L s
  | .set3A => Sys2Proof.Machine.execSet3A s
  | .set4B => Sys2Proof.Machine.execSet4B s
  | .set4C => Sys2Proof.Machine.execSet4C s
  | .set4D => Sys2Proof.Machine.execSet4D s
  | .set4E => Sys2Proof.Machine.execSet4E s
  | .set4H => Sys2Proof.Machine.execSet4H s
  | .set4L => Sys2Proof.Machine.execSet4L s
  | .set4A => Sys2Proof.Machine.execSet4A s
  | .set5B => Sys2Proof.Machine.execSet5B s
  | .set5C => Sys2Proof.Machine.execSet5C s
  | .set5D => Sys2Proof.Machine.execSet5D s
  | .set5E => Sys2Proof.Machine.execSet5E s
  | .set5H => Sys2Proof.Machine.execSet5H s
  | .set5L => Sys2Proof.Machine.execSet5L s
  | .set5A => Sys2Proof.Machine.execSet5A s
  | .set6B => Sys2Proof.Machine.execSet6B s
  | .set6C => Sys2Proof.Machine.execSet6C s
  | .set6D => Sys2Proof.Machine.execSet6D s
  | .set6E => Sys2Proof.Machine.execSet6E s
  | .set6H => Sys2Proof.Machine.execSet6H s
  | .set6L => Sys2Proof.Machine.execSet6L s
  | .set6A => Sys2Proof.Machine.execSet6A s
  | .set7B => Sys2Proof.Machine.execSet7B s
  | .set7C => Sys2Proof.Machine.execSet7C s
  | .set7D => Sys2Proof.Machine.execSet7D s
  | .set7E => Sys2Proof.Machine.execSet7E s
  | .set7H => Sys2Proof.Machine.execSet7H s
  | .set7L => Sys2Proof.Machine.execSet7L s
  | .set7A => Sys2Proof.Machine.execSet7A s
  -- R246
  | .set0Mhl => Sys2Proof.Machine.execSet0Mhl s
  | .set1Mhl => Sys2Proof.Machine.execSet1Mhl s
  | .set2Mhl => Sys2Proof.Machine.execSet2Mhl s
  | .set3Mhl => Sys2Proof.Machine.execSet3Mhl s
  | .set4Mhl => Sys2Proof.Machine.execSet4Mhl s
  | .set5Mhl => Sys2Proof.Machine.execSet5Mhl s
  | .set6Mhl => Sys2Proof.Machine.execSet6Mhl s
  | .set7Mhl => Sys2Proof.Machine.execSet7Mhl s

end Sys2Proof.Machine
end

