-- ==== Sys2Proof/Machine/HostActions.lean ====
section
/-! DEFINITION. What the host does between system steps (spec/60_exceptions.md R321, R322; spec/00_scope.md R5). The inputs to
come stand in the state, one list a step (log entry 7), so that one step stays one function of the state. -/

namespace Sys2Proof.Machine

/-- One host action that changes the block: an external request (R321), or `clear_output()` (R322). -/
def State.hostAct (s : State) : HostAction → State
  | .request src => s.request src
  | .clearOutput => { s with out := [] }

/-- The host actions before the next step, in order; then the list of the step after it comes to the front. -/
def State.hostPhase (s : State) : State :=
  match s.host with
  | [] => s
  | acts :: rest => acts.foldl State.hostAct { s with host := rest }

/-- `is_halted()` (R322). -/
def State.isHalted (s : State) : Bool := s.halted

/-- `has_output()` (R322). -/
def State.hasOutput (s : State) : Bool := !s.out.isEmpty

/-- `get_output()` (R322): the bytes in the order they were appended; nothing is taken out. -/
def State.getOutput (s : State) : List Byte := s.out

end Sys2Proof.Machine
end

