-- ==== Sys2Proof/Machine/Engine.lean ====
section
/-! DEFINITION. The engine's step S1 to S8 and the system step (spec/60_exceptions.md R310 to R320). -/

namespace Sys2Proof.Machine

/-- S1 (R311): any pending interrupt wakes the engine, whatever IME is. -/
def State.wake (s : State) : State :=
  if s.anyPending then { s with halted := false } else s

/-- The source S2 dispatches (R312): one is pending and IME is 1. -/
def State.dispatchSource (s : State) : Option Source :=
  if s.ime then s.getPending else none

/-- What S4 fetched: the first byte, the instruction it decodes to if any, and the state after the reads (R314). -/
structure Fetched where
  op : Byte
  instr : Option Instr
  state : State
deriving DecidableEq, Repr

/-- S4 (R314): the opcode at PC, and after the prefix 0xCB the sub-opcode at PC + 1. -/
def State.fetch (s : State) : Fetched :=
  let op := s.read s.pc
  if op.1 = 0xCB then
    let op2 := op.2.read (s.pc + 1)
    ⟨op.1, decode op2.1 true, op2.2⟩
  else ⟨op.1, decode op.1 false, op.2⟩

/-- S5 (R315): the HALT bug puts PC back by one. -/
def State.haltBugBack (s : State) : State :=
  if s.haltBug then { s with haltBug := false, pc := s.pc - 1 } else s

/-- S7 (R317): an enable deferred before takes effect, then an EI just executed arms the latch. -/
def State.afterExec (s : State) (i : Instr) : State :=
  let s1 := if s.eiPending then { s with ime := true, eiPending := false } else s
  if i = .ei then { s1 with eiPending := true } else s1

/-- S5 to S8 for a decoded instruction. A raised fatal condition ends the step before S7 (R330, log entry 6). -/
def runInstr (i : Instr) (s : State) : Out :=
  match exec i s.haltBugBack with
  | .next t => if t.fatal.isSome then .next t else .next (t.afterExec i)
  | .fault r => .fault r
  | .refused r => .refused r

/-- S4 to S8. -/
def fetchAndRun (s : State) : Out :=
  let f := s.fetch
  match f.instr with
  | none => .next (f.state.raiseFatal (.unassignedOpcode f.op))
  | some i => runInstr i f.state

/-- `Step()` (R310), S1 to S8, on a state that is not fatal; the T-cycles it returns are left in `cycles`. -/
def cpuStep (s : State) : Out :=
  let s1 := s.wake
  match s1.dispatchSource with
  | some src => .next (s1.takeInterrupt src)
  | none => if s1.halted then .next { s1 with cycles := 4 } else fetchAndRun s1

/-- One tick of the system step (R320): the timer, and its request (R348). -/
def State.tick (s : State) : State :=
  let r := s.timerTick
  if r.1 then r.2.request .timer else r.2

/-- `k` ticks. -/
def State.ticks : Nat → State → State
  | 0, s => s
  | k + 1, s => State.ticks k s.tick

/-- The ticks after a step that returned `k` T-cycles (R320); the PPU collaborator's clock moves with them (log entry 8). -/
def State.elapse (s : State) (k : Nat) : State :=
  let s' := State.ticks k s
  { s' with clock := s'.clock + k }

/-- `SystemStep()` (R320), after the host's actions (R321). `Step()` is not defined in a fatal state (R330): the machine stops
there with the fault of the reason recorded. -/
def systemStep (s : State) : Out :=
  match s.fatal with
  | some r => .fault r
  | none =>
    match cpuStep s.hostPhase with
    | .next t => .next (t.elapse t.cycles)
    | .fault r => .fault r
    | .refused r => .refused r

/-- The cell behind an address, where the bus stores something there. -/
def storageCell (addr : Word) : Option Nat :=
  match busTarget addr with
  | .rom cell => some cell
  | .ram cell => some cell
  | _ => none

/-- Put bytes from an address on into the image, ROM included: the loader of `new(rom_bytes)`, not a bus write. -/
def placeBytes : List Byte → Word → Memory → Memory
  | [], _, m => m
  | v :: rest, addr, m =>
    match storageCell addr with
    | some cell => placeBytes rest (addr + 1) (m.writeByte cell v)
    | none => placeBytes rest (addr + 1) m

/-- Where `withFetchWord` puts an instruction: at PC where three bytes are stored there, else at 0xC000 (log entry 13). -/
def placementPc (pc : Word) : Word :=
  if (storageCell pc).isSome && (storageCell (pc + 1)).isSome && (storageCell (pc + 2)).isSome then pc else 0xC000

/-- `s` made ready to fetch and run an instruction's bytes in its very next step: the bytes placed at PC; not fatal, not
halted, no HALT bug, no host input, and no dispatch before the fetch (log entries 12, 13). -/
def State.withBytes (s : State) (bytes : List Byte) : State :=
  { s with
    pc := placementPc s.pc
    mem := placeBytes bytes (placementPc s.pc) s.mem
    fatal := none
    halted := false
    haltBug := false
    host := []
    ime := s.ime && !s.anyPending }

end Sys2Proof.Machine
end

