-- ==== Sys2Proof/Machine/Reset.lean ====
section
/-! DEFINITION. `new(rom_bytes)` with every parameter (spec/70_reset_and_hazards.md R360 to R367): the only reset there is.
`State.reset` is its value for the default parameters and an empty image. -/

namespace Sys2Proof.Machine

/-- The cells of a ROM image from address `k` on: bytes beyond 0x7FFF are not visible (R53, R364). -/
def loadRom : List Byte → Nat → Memory → Memory
  | [], _, m => m
  | v :: rest, k, m => if k < 0x8000 then loadRom rest (k + 1) (m.writeByte k v) else m

/-- The initial RAM contents `RESET_RAM` (R364): pairs of an address and a byte; only RAM addresses count. -/
def loadRam : List (Word × Byte) → Memory → Memory
  | [], m => m
  | (addr, v) :: rest, m =>
    match busTarget addr with
    | .ram cell => loadRam rest (m.writeByte cell v)
    | _ => loadRam rest m

/-- `new(rom_bytes)` (R360 to R367) with the parameters of reset, the running parameters, and the host's inputs to come. -/
def State.new (r : Config.ResetParams) (p : Config.Params) (inputs : List (List HostAction)) (rom : List Byte) : State :=
  { State.reset with
    a := r.a, b := r.regB, c := r.regC, d := r.regD, e := r.regE, h := r.regH, l := r.regL
    zf := r.z, nf := r.n, hf := r.h, cf := r.c, sp := r.sp, counter := r.counter
    mem := loadRam r.ram (loadRom rom 0 []), host := inputs, params := p }

end Sys2Proof.Machine
end

