-- ==== Sys2Proof/Machine/Step.lean ====
section
/-! DEFINITION. The step of the machine, and the host's way to put an instruction where it fetches. -/

namespace Sys2Proof.Machine

/-- One system step (spec/60_exceptions.md R320), with the host's actions before it (R321). -/
def step (s : State) : Host.Outcome State Fault Refusal :=
  systemStep s

/-- `s` with the table's word stored where `step` fetches its next instruction (log entries 3, 12, 13). -/
def State.withFetchWord (s : State) (nbits w : Nat) : State :=
  s.withBytes (tableBytes nbits w)

end Sys2Proof.Machine
end

