-- ==== Sys2Proof/Safety.lean ====
section
/-! DEFINITION. What a safe run is: one that never meets the fatal condition (spec/60_exceptions.md R330), the machine's only
synchronous exception. Also the invariant of the state that the claims use. -/

namespace Sys2Proof

open Sys2Proof.Machine

/-- The state is not fatal: `Step()` is defined in it (R310, R330). -/
abbrev Safe (s : State) : Prop := s.fatal = none

/-- Every one of the first `n` steps from `s` answers a next state, and each is safe. -/
def RunsSafely : Nat → State → Prop
  | 0, s => Safe s
  | n + 1, s => Safe s ∧ ∃ t, step s = .next t ∧ RunsSafely n t

/-- A cell number that the bus stores a byte for (spec/10_state.md R28). -/
def storedCell (k : Nat) : Bool :=
  decide (k < 0x8000) || (decide (0xA000 ≤ k) && decide (k < 0xE000)) || (decide (0xFE00 ≤ k) && decide (k < 0xFEA0))
    || (decide (0xFF80 ≤ k) && decide (k < 0xFFFF))

/-- The reload countdown is none or 1 to 4 (spec/10_state.md R24). -/
def reloadOk : Option Nat → Bool
  | none => true
  | some k => decide (1 ≤ k) && decide (k ≤ 4)

/-- What every state of a run satisfies: memory in its canonical form, over the cells the bus has; the countdown in its range;
`prev_bit` the bit that the timer selects now. -/
structure StateOk (s : State) : Prop where
  memory : s.mem.wf
  cells : ∀ x ∈ s.mem, storedCell x.1 = true
  reload : reloadOk s.reload = true
  prevBit : s.prevBit = s.selectedBit

end Sys2Proof
end

