-- ==== Sys2Proof/Certificates/Slice0/Obligations.lean ====
section
/-! DEFINITION. The statements for the provers, in the order of the spec's files. Each is one proposition about the model; its
docstring names the rules it formalises, or says what it rests on. Before them, the words they use: what an instruction's
bytes are, what it costs by default, what the bus reads and writes by the tables of spec/20_memory.md R51 and R52 written out
address by address, which addresses a form stores to, and the engine's ordinary case. -/

namespace Sys2Proof.Claims

open Sys2Proof.Machine

/-- The selector of a general register (spec/30_encoding.md R95). -/
def sel : Reg8 → Nat
  | .b => 0 | .c => 1 | .d => 2 | .e => 3 | .h => 4 | .l => 5 | .a => 7

/-- The selector of `rp` (R96). -/
def sel16 : Reg16 → Nat
  | .bc => 0 | .de => 1 | .hl => 2 | .sp => 3

/-- The selector of `rp2` (R96). -/
def selStk : Stk16 → Nat
  | .bc => 0 | .de => 1 | .hl => 2 | .af => 3

/-- The selector of a branch condition (R97). -/
def selCond : Cond → Nat
  | .nz => 0 | .z => 1 | .nc => 2 | .c => 3

/-- The selector of a prefixed rotate or shift (R105). -/
def selRot : RotOp → Nat
  | .rlc => 0 | .rrc => 1 | .rl => 2 | .rr => 3 | .sla => 4 | .sra => 5 | .swap => 6 | .srl => 7

/-- The unprefixed byte `op` is the instruction `i`. -/
abbrev Byte0 (op : Nat) (i : Instr) : Prop := decode (BitVec.ofNat 8 op) false = some i

/-- The byte `op` after the prefix 0xCB is the instruction `i`. -/
abbrev ByteCb (op : Nat) (i : Instr) : Prop := decode (BitVec.ofNat 8 op) true = some i

/-- With `CYCLES` at its default, `i` costs `k` T-cycles. -/
abbrev Costs (p : Config.Params) (i : Instr) (k : Nat) : Prop := p.costs = [] → p.cost i = k

/-- With `CYCLES` at its default, the conditional transfer `i` costs `k` T-cycles when taken. -/
abbrev CostsTaken (p : Config.Params) (i : Instr) (k : Nat) : Prop := p.costs = [] → p.costTaken i = k

/-- The end of an instruction's record: everything as in `s` but PC and the T-cycles. -/
abbrev done (s : State) (pc : Word) (k : Nat) : State := { s with pc := pc, cycles := k }

/-- `w[15:8]`. -/
abbrev high (w : Word) : Byte := w.extractLsb' 8 8

/-- `w[7:0]`. -/
abbrev low (w : Word) : Byte := w.extractLsb' 0 8

/-- `Imm8()` (R98): the byte at PC + 1, and the state after the read. -/
def imm8 (s : State) : Byte × State := s.read (s.pc + 1)

/-- `Imm16()` (R98): the byte at PC + 1 is the low byte and the byte at PC + 2 the high byte, read in that order. -/
def imm16 (s : State) : Word × State :=
  let lo := s.read (s.pc + 1)
  let hi := lo.2.read (s.pc + 2)
  (hi.1 ++ lo.1, hi.2)

/-- `Pop16()` (R151): low byte at SP, high byte at SP + 1, SP up by 2. -/
def popped (s : State) : Word × State :=
  let lo := s.read s.sp
  let hi := lo.2.read (s.sp + 1)
  (hi.1 ++ lo.1, { hi.2 with sp := s.sp + 2 })

/-- The operand of an accumulator instruction (R95, R98), and the state after reading it. -/
def source (s : State) : Src8 → Byte × State
  | .reg r => (s.getReg r, s)
  | .mhl => s.read s.hl
  | .d8 => imm8 s

/-- The length of an accumulator instruction with that operand. -/
def sourceLength : Src8 → Word
  | .reg _ => 1 | .mhl => 1 | .d8 => 2

/-- Its default cost (spec/42_alu8.md: the register form costs 4, the (HL) and d8 forms 8). -/
def sourceCost : Src8 → Nat
  | .reg _ => 4 | .mhl => 8 | .d8 => 8

/-- Its opcode byte, `y` the operation selector of R99 (R103, R104). -/
def sourceByte (y : Nat) : Src8 → Nat
  | .reg r => 0x80 + 8 * y + sel r
  | .mhl => 0x86 + 8 * y
  | .d8 => 0xC6 + 8 * y

/-- The operand `x[i]` (R95), and the state after reading it. -/
def operand (s : State) : Opnd → Byte × State
  | .reg r => (s.getReg r, s)
  | .mhl => s.read s.hl

/-- `x[i] <- v` (R95). -/
def putOperand (s : State) (x : Opnd) (v : Byte) : State :=
  match x with
  | .reg r => s.setReg r v
  | .mhl => s.write s.hl v

/-- The selector of `x[i]` (R95). -/
def selOpnd : Opnd → Nat
  | .reg r => sel r | .mhl => 6

/-- The default cost of a prefixed instruction (R224). -/
def operandCost : Opnd → Nat
  | .reg _ => 8 | .mhl => 16

/-- The result of a rotate, a shift or SWAP, as whole-byte operations, with the old carry `c` (R220 to R239). -/
def rotated (op : RotOp) (v : Byte) (c : Bool) : Byte :=
  match op with
  | .rlc => v.rotateLeft 1
  | .rrc => v.rotateRight 1
  | .rl => (v <<< 1) ||| (if c then 0x01 else 0x00)
  | .rr => (v >>> 1) ||| (if c then 0x80 else 0x00)
  | .sla => v <<< 1
  | .sra => v.sshiftRight 1
  | .swap => v.rotateLeft 4
  | .srl => v >>> 1

/-- The carry it leaves: the bit shifted out, and none for SWAP. -/
def shiftedOut (op : RotOp) (v : Byte) : Bool :=
  match op with
  | .rlc | .rl | .sla => decide (v.toNat ≥ 128)
  | .rrc | .rr | .sra | .srl => decide (v.toNat % 2 = 1)
  | .swap => false

/-- The condition of a branch by its selector (R97). -/
def holds (s : State) : Cond → Prop
  | .nz => s.zf = false
  | .z => s.zf = true
  | .nc => s.cf = false
  | .c => s.cf = true

/-- `MemRead(addr, 1)` by the table of R51, row by row. -/
def busRead (s : State) (addr : Word) : Byte :=
  let n := addr.toNat
  if n ≤ 0x7FFF then s.mem.readByte n
  else if n ≤ 0x9FFF then Config.ppuReadVram s.ppu s.clock (BitVec.ofNat 13 (n - 0x8000))
  else if n ≤ 0xDFFF then s.mem.readByte n
  else if n ≤ 0xFDFF then s.mem.readByte (n - 0x2000)
  else if n ≤ 0xFE9F then s.mem.readByte n
  else if n ≤ 0xFEFF then 0xFF
  else if n = 0xFF01 then s.sb
  else if n = 0xFF02 then s.sc
  else if n = 0xFF04 then BitVec.ofNat 8 (s.counter.toNat / 256)
  else if n = 0xFF05 then s.tima
  else if n = 0xFF06 then s.tma
  else if n = 0xFF07 then BitVec.ofNat 8 (8 * s.params.tacReadFill.toNat + s.tac.toNat)
  else if n = 0xFF0F then 0xE0 ||| s.ifBits.setWidth 8
  else if 0xFF40 ≤ n ∧ n ≤ 0xFF4B then Config.ppuReadRegister s.ppu s.clock addr
  else if n ≤ 0xFF7F then 0xFF
  else if n ≤ 0xFFFE then s.mem.readByte n
  else s.ie

/-- The addresses behind which the PPU collaborator stands (R54, R62). -/
def PpuWindow (addr : Word) : Prop :=
  (0x8000 ≤ addr.toNat ∧ addr.toNat ≤ 0x9FFF) ∨ (0xFF40 ≤ addr.toNat ∧ addr.toNat ≤ 0xFF4B)

/-- The addresses of the four plain read-write regions and of the echo (R55 to R58, R65). -/
def PlainRam (addr : Word) : Prop :=
  (0xA000 ≤ addr.toNat ∧ addr.toNat ≤ 0xFE9F) ∨ (0xFF80 ≤ addr.toNat ∧ addr.toNat ≤ 0xFFFE)

/-- The address that stands for a byte: an echo address stands for the work RAM 0x2000 below (R57). -/
def home (addr : Word) : Nat :=
  if 0xE000 ≤ addr.toNat ∧ addr.toNat ≤ 0xFDFF then addr.toNat - 0x2000 else addr.toNat

/-- What a store to `stored` may change at `addr`: the byte itself (under both its addresses), and beyond it only what the last
part of R72 lists as readable: a write of SC can set an IF bit, a write of DIV or TAC can step TIMA. -/
def Touches (stored addr : Word) : Prop :=
  home stored = home addr ∨ (stored = 0xFF02 ∧ addr = 0xFF0F) ∨ ((stored = 0xFF04 ∨ stored = 0xFF07) ∧ addr = 0xFF05)

/-- The addresses each storing form stores to, computed from the state before it: R122 to R136 (8-bit stores), R153 and R156
and the calls (two bytes), R197, R199 and the read-modify-write forms of the CB family (the cell at HL). -/
inductive StoresTo (s : State) : Instr → Word → Prop where
  | ldMR (r : Reg8) : StoresTo s (Instr.ldMR r) s.hl
  | ldMhlD8 : StoresTo s .ldMhlD8 s.hl
  | ldMbcA : StoresTo s .ldMbcA s.bc
  | ldMdeA : StoresTo s .ldMdeA s.de
  | ldMa16A : StoresTo s .ldMa16A (imm16 s).1
  | ldhMa8A : StoresTo s .ldhMa8A (0xFF00 + (imm8 s).1.setWidth 16)
  | ldMcA : StoresTo s .ldMcA (0xFF00 + s.c.setWidth 16)
  | ldMhliA : StoresTo s .ldMhliA s.hl
  | ldMhldA : StoresTo s .ldMhldA s.hl
  | ldMa16SpLow : StoresTo s .ldMa16Sp (imm16 s).1
  | ldMa16SpHigh : StoresTo s .ldMa16Sp ((imm16 s).1 + 1)
  | pushHigh (r : Stk16) : StoresTo s (Instr.push r) (s.sp - 1)
  | pushLow (r : Stk16) : StoresTo s (Instr.push r) (s.sp - 2)
  | incMhl : StoresTo s .incMhl s.hl
  | decMhl : StoresTo s .decMhl s.hl
  | rotMhl (op : RotOp) : StoresTo s (Instr.rot op .mhl) s.hl
  | resMhl (b : Fin 8) : StoresTo s (Instr.res b .mhl) s.hl
  | setMhl (b : Fin 8) : StoresTo s (Instr.set b .mhl) s.hl
  | callHigh : StoresTo s .callA16 (s.sp - 1)
  | callLow : StoresTo s .callA16 (s.sp - 2)
  | callCcHigh (cc : Cond) : holds s cc → StoresTo s (Instr.callCc cc) (s.sp - 1)
  | callCcLow (cc : Cond) : holds s cc → StoresTo s (Instr.callCc cc) (s.sp - 2)
  | rstHigh (t : Fin 8) : StoresTo s (Instr.rst t) (s.sp - 1)
  | rstLow (t : Fin 8) : StoresTo s (Instr.rst t) (s.sp - 2)

/-- Pushing two bytes by two bus writes, high byte first, SP decremented before each (R150). -/
def pushed (s : State) (hi lo : Byte) : State :=
  let s1 := State.write { s with sp := s.sp - 1 } (s.sp - 1) hi
  State.write { s1 with sp := s.sp - 2 } (s.sp - 2) lo

/-- A mark of the table of R14: unchanged, the constants 0 and 1, computed. -/
inductive FlagMark where
  | kept | zero | one | computed
deriving DecidableEq, Repr

/-- What a mark says of a flag's old and new value. -/
def FlagMark.Obeyed : FlagMark → Bool → Bool → Prop
  | .kept, old, new => new = old
  | .zero, _, new => new = false
  | .one, _, new => new = true
  | .computed, _, _ => True

/-- The table of R14, row by row: the marks of z, n, h, c. -/
inductive FlagRow : Instr → FlagMark → FlagMark → FlagMark → FlagMark → Prop where
  | add (x : Src8) : FlagRow (Instr.alu .add x) .computed .zero .computed .computed
  | adc (x : Src8) : FlagRow (Instr.alu .adc x) .computed .zero .computed .computed
  | sub (x : Src8) : FlagRow (Instr.alu .sub x) .computed .one .computed .computed
  | sbc (x : Src8) : FlagRow (Instr.alu .sbc x) .computed .one .computed .computed
  | cp (x : Src8) : FlagRow (Instr.alu .cp x) .computed .one .computed .computed
  | and (x : Src8) : FlagRow (Instr.alu .and x) .computed .zero .one .zero
  | or (x : Src8) : FlagRow (Instr.alu .or x) .computed .zero .zero .zero
  | xor (x : Src8) : FlagRow (Instr.alu .xor x) .computed .zero .zero .zero
  | incR (r : Reg8) : FlagRow (Instr.incR r) .computed .zero .computed .kept
  | incMhl : FlagRow .incMhl .computed .zero .computed .kept
  | decR (r : Reg8) : FlagRow (Instr.decR r) .computed .one .computed .kept
  | decMhl : FlagRow .decMhl .computed .one .computed .kept
  | addHl (r : Reg16) : FlagRow (Instr.addHl r) .kept .zero .computed .computed
  | addSp : FlagRow .addSpR8 .zero .zero .computed .computed
  | ldHlSp : FlagRow .ldHlSpR8 .zero .zero .computed .computed
  | daa : FlagRow .daa .computed .kept .zero .computed
  | popAf : FlagRow .popAf .computed .computed .computed .computed
  | cpl : FlagRow .cpl .kept .one .one .kept
  | scf : FlagRow .scf .kept .zero .zero .one
  | ccf : FlagRow .ccf .kept .zero .zero .computed
  | rlca : FlagRow .rlca .zero .zero .zero .computed
  | rrca : FlagRow .rrca .zero .zero .zero .computed
  | rla : FlagRow .rla .zero .zero .zero .computed
  | rra : FlagRow .rra .zero .zero .zero .computed
  | rot (op : RotOp) (x : Opnd) : op ≠ .swap → FlagRow (Instr.rot op x) .computed .zero .zero .computed
  | swap (x : Opnd) : FlagRow (Instr.rot .swap x) .computed .zero .zero .zero
  | bit (b : Fin 8) (x : Opnd) : FlagRow (Instr.bit b x) .computed .zero .one .kept

/-- The control transfers (spec/45_control_flow.md). -/
inductive Transfer : Instr → Prop where
  | jpA16 : Transfer .jpA16
  | jpCc (cc : Cond) : Transfer (Instr.jpCc cc)
  | jpHl : Transfer .jpHl
  | jrR8 : Transfer .jrR8
  | jrCc (cc : Cond) : Transfer (Instr.jrCc cc)
  | callA16 : Transfer .callA16
  | callCc (cc : Cond) : Transfer (Instr.callCc cc)
  | ret : Transfer .ret
  | retCc (cc : Cond) : Transfer (Instr.retCc cc)
  | reti : Transfer .reti
  | rst (t : Fin 8) : Transfer (Instr.rst t)

/-- The state as `Step()` finds it (R310): the host's actions before this step are done, and S1 has woken the engine. -/
def atBoundary (s : State) : State :=
  let h := s.hostPhase
  if h.ifBits &&& h.ie.setWidth 5 ≠ 0 then { h with halted := false } else h

/-- The step reaches its fetch: no fatal condition, no dispatch (R312), not halted (R313). -/
def Fetches (s : State) : Prop :=
  s.fatal = none ∧ ((atBoundary s).ime = false ∨ (atBoundary s).ifBits &&& (atBoundary s).ie.setWidth 5 = 0)
    ∧ (atBoundary s).halted = false

/-- The bit of the counter that TAC selects (R341), 0 when the timer is disabled. -/
def watched (tac : BitVec 3) (counter : BitVec 16) : Bool :=
  let k := if tac.toNat % 4 = 0 then 9 else if tac.toNat % 4 = 1 then 3 else if tac.toNat % 4 = 2 then 5 else 7
  decide (4 ≤ tac.toNat ∧ counter.toNat / 2 ^ k % 2 = 1)

/-- The ticks from one increment of TIMA to the next (R349). -/
def period (tac : BitVec 3) : Nat :=
  if tac.toNat % 4 = 0 then 1024 else if tac.toNat % 4 = 1 then 16 else if tac.toNat % 4 = 2 then 64 else 256

/-- The bit of a source in IF and IE (R301). -/
def bitOf : Source → Nat
  | .vblank => 0 | .lcdStatus => 1 | .timer => 2 | .serial => 3 | .joypad => 4

/-- The source is requested and enabled (R306). -/
def Pending (s : State) (k : Nat) : Prop := s.ifBits.getLsbD k = true ∧ s.ie.getLsbD k = true

/-- The source is the one `GetPending()` returns (R303): pending, and none with a lower bit number is. -/
def Chosen (s : State) (src : Source) : Prop :=
  Pending s (bitOf src) ∧ ∀ k < bitOf src, ¬ Pending s k

/-- Step S7 (R317). -/
def afterS7 (i : Instr) (t : State) : State :=
  { t with ime := t.ime || t.eiPending, eiPending := decide (i = .ei) }

/-- The 11 unassigned first bytes (R106). -/
def unassigned : List Byte := [0xD3, 0xDB, 0xDD, 0xE3, 0xE4, 0xEB, 0xEC, 0xED, 0xF4, 0xFC, 0xFD]

/-- Packed BCD: the byte of a number from 0 to 99. -/
def bcd (n : Nat) : Byte := BitVec.ofNat 8 (16 * (n / 10) + n % 10)

end Sys2Proof.Claims


open Sys2Proof Sys2Proof.Machine Sys2Proof.Claims

/-- x[i] for i from 0 to 7 is B, C, D, E, H, L, the byte a bus read gives at HL, and A, read and written; rp is BC, DE, HL, SP
and rp2 is BC, DE, HL, AF, read and written. BC, DE, HL and AF are B++C, D++E, H++L and A++F, with F the four flags z n h c
above a zero nibble. Writing BC, DE or HL writes v[15:8] to the first letter and v[7:0] to the second; writing AF writes A and
the four flags from bits 7 to 4 and drops bits 3 to 0. Writing a register, a pair or SP changes nothing else; writing x[6] is
the bus write at HL. (Formalises R11, R12, R95, R96.) -/
def Obligations.PairsAndFlagsByte : Prop :=
  ∀ (s : State) (v : Word) (w : Byte),
    [Opnd.reg .b, .reg .c, .reg .d, .reg .e, .reg .h, .reg .l, .mhl, .reg .a].map selOpnd = [0, 1, 2, 3, 4, 5, 6, 7]
    ∧ [Reg16.bc, .de, .hl, .sp].map sel16 = [0, 1, 2, 3] ∧ [Stk16.bc, .de, .hl, .af].map selStk = [0, 1, 2, 3]
    ∧ s.getReg .b = s.b ∧ s.getReg .c = s.c ∧ s.getReg .d = s.d ∧ s.getReg .e = s.e
    ∧ s.getReg .h = s.h ∧ s.getReg .l = s.l ∧ s.getReg .a = s.a
    ∧ s.setReg .b w = { s with b := w } ∧ s.setReg .c w = { s with c := w } ∧ s.setReg .d w = { s with d := w }
    ∧ s.setReg .e w = { s with e := w } ∧ s.setReg .h w = { s with h := w } ∧ s.setReg .l w = { s with l := w }
    ∧ s.setReg .a w = { s with a := w }
    ∧ (∀ r, s.readOpnd (.reg r) = (s.getReg r, s) ∧ s.writeOpnd (.reg r) w = s.setReg r w)
    ∧ s.readOpnd .mhl = s.read (s.h ++ s.l) ∧ s.writeOpnd .mhl w = s.write (s.h ++ s.l) w
    ∧ s.getReg16 .bc = s.b ++ s.c ∧ s.getReg16 .de = s.d ++ s.e ∧ s.getReg16 .hl = s.h ++ s.l ∧ s.getReg16 .sp = s.sp
    ∧ s.getStk16 .bc = s.b ++ s.c ∧ s.getStk16 .de = s.d ++ s.e ∧ s.getStk16 .hl = s.h ++ s.l ∧ s.getStk16 .af = s.af
    ∧ s.setReg16 .sp v = { s with sp := v }
    ∧ s.bc = s.b ++ s.c ∧ s.de = s.d ++ s.e ∧ s.hl = s.h ++ s.l
    ∧ s.af = s.a ++ (BitVec.ofBool s.zf ++ BitVec.ofBool s.nf ++ BitVec.ofBool s.hf ++ BitVec.ofBool s.cf ++ 0#4)
    ∧ s.setReg16 .bc v = { s with b := high v, c := low v } ∧ s.setStk16 .bc v = { s with b := high v, c := low v }
    ∧ s.setReg16 .de v = { s with d := high v, e := low v } ∧ s.setStk16 .de v = { s with d := high v, e := low v }
    ∧ s.setReg16 .hl v = { s with h := high v, l := low v } ∧ s.setStk16 .hl v = { s with h := high v, l := low v }
    ∧ s.setStk16 .af v = { s with
        a := high v, zf := v.getLsbD 7, nf := v.getLsbD 6, hf := v.getLsbD 5, cf := v.getLsbD 4 }
    ∧ s.f.toNat % 16 = 0

/-- For every pair of registers, LD r,r' writes the source register's value to the destination, moves PC on by 1, costs 4 by
default, changes nothing else, and is the byte 0b01YYYZZZ of its selectors. (Formalises R120.) -/
def Obligations.LoadRegisterFromRegister : Prop :=
  ∀ (dst src : Reg8) (s : State),
    exec (Instr.ldRR dst src) s
        = .next (done (s.setReg dst (s.getReg src)) (s.pc + 1) (s.params.cost (Instr.ldRR dst src)))
    ∧ Costs s.params (Instr.ldRR dst src) 4 ∧ Byte0 (0x40 + 8 * sel dst + sel src) (Instr.ldRR dst src)

/-- For every register, LD r,(HL) writes the byte a bus read at HL gives to the register (HL taken before the write, also for H
and L), moves PC on by 1, costs 8 by default, changes nothing else but what the bus read changes, and is the byte 0b01YYY110.
(Formalises R121.) -/
def Obligations.LoadRegisterFromMemory : Prop :=
  ∀ (dst : Reg8) (s : State),
    exec (Instr.ldRM dst) s
        = .next (done ((s.read s.hl).2.setReg dst (s.read s.hl).1) (s.pc + 1) (s.params.cost (Instr.ldRM dst)))
    ∧ Costs s.params (Instr.ldRM dst) 8 ∧ Byte0 (0x46 + 8 * sel dst) (Instr.ldRM dst)

/-- For every register, LD r,d8 writes the byte at PC + 1 to the register, moves PC on by 2, costs 8 by default, changes nothing
else but what the bus read changes, and has the opcode byte 0b00YYY110. (Formalises R123.) -/
def Obligations.LoadRegisterImmediate : Prop :=
  ∀ (dst : Reg8) (s : State),
    exec (Instr.ldRD8 dst) s
        = .next (done ((imm8 s).2.setReg dst (imm8 s).1) (s.pc + 2) (s.params.cost (Instr.ldRD8 dst)))
    ∧ Costs s.params (Instr.ldRD8 dst) 8 ∧ Byte0 (0x06 + 8 * sel dst) (Instr.ldRD8 dst)

/-- LD A,(BC), LD A,(DE), LD A,(a16), LDH A,(a8) and LD A,(C) each write to A the byte a bus read gives at BC, DE, the 16-bit
immediate, 0xFF00 plus the 8-bit immediate, or 0xFF00 plus C; PC moves on by the length 1, 1, 3, 2, 1; the default cost is 8, 8,
16, 12, 8; nothing else changes but what the bus reads change. (Formalises R125, R126, R129, R131, R133.) -/
def Obligations.LoadAccumulatorIndirect : Prop :=
  ∀ s : State,
    (exec .ldAMbc s = .next (done { (s.read s.bc).2 with a := (s.read s.bc).1 } (s.pc + 1) (s.params.cost .ldAMbc))
      ∧ Costs s.params .ldAMbc 8 ∧ Byte0 0x0A .ldAMbc)
    ∧ (exec .ldAMde s = .next (done { (s.read s.de).2 with a := (s.read s.de).1 } (s.pc + 1) (s.params.cost .ldAMde))
      ∧ Costs s.params .ldAMde 8 ∧ Byte0 0x1A .ldAMde)
    ∧ (let v := (imm16 s).2.read (imm16 s).1
       exec .ldAMa16 s = .next (done { v.2 with a := v.1 } (s.pc + 3) (s.params.cost .ldAMa16))
      ∧ Costs s.params .ldAMa16 16 ∧ Byte0 0xFA .ldAMa16)
    ∧ (let v := (imm8 s).2.read (0xFF00 + (imm8 s).1.setWidth 16)
       exec .ldhAMa8 s = .next (done { v.2 with a := v.1 } (s.pc + 2) (s.params.cost .ldhAMa8))
      ∧ Costs s.params .ldhAMa8 12 ∧ Byte0 0xF0 .ldhAMa8)
    ∧ (let v := s.read (0xFF00 + s.c.setWidth 16)
       exec .ldAMc s = .next (done { v.2 with a := v.1 } (s.pc + 1) (s.params.cost .ldAMc))
      ∧ Costs s.params .ldAMc 8 ∧ Byte0 0xF2 .ldAMc)

/-- LD (HL),r for every register, LD (HL),d8, LD (BC),A, LD (DE),A, LD (a16),A, LDH (a8),A and LD (C),A make one bus write of
the register or immediate at HL, HL, BC, DE, the 16-bit immediate, 0xFF00 plus the 8-bit immediate, 0xFF00 plus C; PC moves on
by the length; the default costs are 8, 12, 8, 8, 16, 12, 8; nothing else changes. (Formalises R122, R124, R127, R128, R130,
R132, R134.) -/
def Obligations.StoreByteForms : Prop :=
  ∀ s : State,
    (∀ r : Reg8,
      exec (Instr.ldMR r) s = .next (done (s.write s.hl (s.getReg r)) (s.pc + 1) (s.params.cost (Instr.ldMR r)))
      ∧ Costs s.params (Instr.ldMR r) 8 ∧ Byte0 (0x70 + sel r) (Instr.ldMR r))
    ∧ (exec .ldMhlD8 s = .next (done ((imm8 s).2.write s.hl (imm8 s).1) (s.pc + 2) (s.params.cost .ldMhlD8))
      ∧ Costs s.params .ldMhlD8 12 ∧ Byte0 0x36 .ldMhlD8)
    ∧ (exec .ldMbcA s = .next (done (s.write s.bc s.a) (s.pc + 1) (s.params.cost .ldMbcA))
      ∧ Costs s.params .ldMbcA 8 ∧ Byte0 0x02 .ldMbcA)
    ∧ (exec .ldMdeA s = .next (done (s.write s.de s.a) (s.pc + 1) (s.params.cost .ldMdeA))
      ∧ Costs s.params .ldMdeA 8 ∧ Byte0 0x12 .ldMdeA)
    ∧ (exec .ldMa16A s = .next (done ((imm16 s).2.write (imm16 s).1 s.a) (s.pc + 3) (s.params.cost .ldMa16A))
      ∧ Costs s.params .ldMa16A 16 ∧ Byte0 0xEA .ldMa16A)
    ∧ (exec .ldhMa8A s
          = .next (done ((imm8 s).2.write (0xFF00 + (imm8 s).1.setWidth 16) s.a) (s.pc + 2) (s.params.cost .ldhMa8A))
      ∧ Costs s.params .ldhMa8A 12 ∧ Byte0 0xE0 .ldhMa8A)
    ∧ (exec .ldMcA s = .next (done (s.write (0xFF00 + s.c.setWidth 16) s.a) (s.pc + 1) (s.params.cost .ldMcA))
      ∧ Costs s.params .ldMcA 8 ∧ Byte0 0xE2 .ldMcA)

/-- LD (HL+),A and LD (HL-),A write A at HL and then add 1 to, or take 1 from, HL modulo 2^16; LD A,(HL+) and LD A,(HL-) read A
at HL and then step HL the same way; PC moves on by 1, the default cost is 8, and nothing else changes but what the bus access
changes. (Formalises R135, R136, R137, R138.) -/
def Obligations.LoadStoreStepHl : Prop :=
  ∀ s : State,
    let up := BitVec.ofNat 16 (s.hl.toNat + 1)
    let down := BitVec.ofInt 16 ((s.hl.toNat : Int) - 1)
    (exec .ldMhliA s
        = .next (done { s.write s.hl s.a with h := high up, l := low up } (s.pc + 1) (s.params.cost .ldMhliA))
      ∧ Costs s.params .ldMhliA 8 ∧ Byte0 0x22 .ldMhliA)
    ∧ (exec .ldMhldA s
        = .next (done { s.write s.hl s.a with h := high down, l := low down } (s.pc + 1) (s.params.cost .ldMhldA))
      ∧ Costs s.params .ldMhldA 8 ∧ Byte0 0x32 .ldMhldA)
    ∧ (exec .ldAMhli s
        = .next (done { (s.read s.hl).2 with a := (s.read s.hl).1, h := high up, l := low up } (s.pc + 1)
            (s.params.cost .ldAMhli))
      ∧ Costs s.params .ldAMhli 8 ∧ Byte0 0x2A .ldAMhli)
    ∧ (exec .ldAMhld s
        = .next (done { (s.read s.hl).2 with a := (s.read s.hl).1, h := high down, l := low down } (s.pc + 1)
            (s.params.cost .ldAMhld))
      ∧ Costs s.params .ldAMhld 8 ∧ Byte0 0x3A .ldAMhld)

/-- LD rr,d16 writes the 16-bit immediate to BC, DE, HL or SP (PC + 3, cost 12); LD SP,HL copies HL to SP (PC + 1, cost 8); LD
(a16),SP makes two bus writes, the low byte of SP at the immediate address and then the high byte at that address plus 1 (PC +
3, cost 20). Nothing else changes but what the bus accesses change. (Formalises R152, R153, R154.) -/
def Obligations.LoadSixteenBit : Prop :=
  ∀ s : State,
    (∀ r : Reg16,
      exec (Instr.ld16 r) s
          = .next (done ((imm16 s).2.setReg16 r (imm16 s).1) (s.pc + 3) (s.params.cost (Instr.ld16 r)))
      ∧ Costs s.params (Instr.ld16 r) 12 ∧ Byte0 (0x01 + 16 * sel16 r) (Instr.ld16 r))
    ∧ (exec .ldMa16Sp s
          = .next (done (((imm16 s).2.write (imm16 s).1 (low s.sp)).write ((imm16 s).1 + 1) (high s.sp)) (s.pc + 3)
              (s.params.cost .ldMa16Sp))
      ∧ Costs s.params .ldMa16Sp 20 ∧ Byte0 0x08 .ldMa16Sp)
    ∧ (exec .ldSpHl s = .next (done { s with sp := s.h ++ s.l } (s.pc + 1) (s.params.cost .ldSpHl))
      ∧ Costs s.params .ldSpHl 8 ∧ Byte0 0xF9 .ldSpHl)

/-- The result is SP plus the sign-extended immediate modulo 2^16, written to SP or to HL (SP kept); h is set when the low
nibbles of SP and of the immediate byte taken as unsigned sum above 0xF, c when the low byte of SP and the unsigned byte sum
above 0xFF; z and n are 0; PC + 2; default cost 16 and 12; nothing else changes. (Formalises R155, R213, R214.) -/
def Obligations.SignedSpOffset : Prop :=
  ∀ s : State,
    let e := (imm8 s).1
    let r := BitVec.ofInt 16 ((s.sp.toNat : Int) + e.toInt)
    let h := decide (s.sp.toNat % 16 + e.toNat % 16 > 0xF)
    let c := decide (s.sp.toNat % 256 + e.toNat > 0xFF)
    (exec .addSpR8 s
        = .next (done { (imm8 s).2 with sp := r, zf := false, nf := false, hf := h, cf := c } (s.pc + 2)
            (s.params.cost .addSpR8))
      ∧ Costs s.params .addSpR8 16 ∧ Byte0 0xE8 .addSpR8)
    ∧ (exec .ldHlSpR8 s
        = .next (done { (imm8 s).2 with h := high r, l := low r, zf := false, nf := false, hf := h, cf := c } (s.pc + 2)
            (s.params.cost .ldHlSpR8))
      ∧ Costs s.params .ldHlSpR8 12 ∧ Byte0 0xF8 .ldHlSpR8)

/-- PUSH takes 1 from SP and writes the pair's high byte there, then takes 1 more and writes the low byte there, by ordinary bus
writes, whatever region SP points into; for AF the low byte is F with a zero low nibble; PC + 1; default cost 16; nothing else
changes. (Formalises R150, R156.) -/
def Obligations.PushWritesHighByteFirst : Prop :=
  ∀ (r : Stk16) (s : State),
    exec (Instr.push r) s
        = .next (done (pushed s (high (s.getStk16 r)) (low (s.getStk16 r))) (s.pc + 1) (s.params.cost (Instr.push r)))
    ∧ Costs s.params (Instr.push r) 16 ∧ Byte0 (0xC5 + 16 * selStk r) (Instr.push r)

/-- POP reads the low byte at SP and the high byte at SP + 1, leaves SP two higher and writes the pair (for AF: A and the four
flags, bits 3 to 0 dropped); PC + 1; default cost 12; nothing else changes but what the bus reads change. (Formalises R151,
R157, R158.) -/
def Obligations.PopReadsLowByteFirst : Prop :=
  ∀ (r : Stk16) (s : State),
    exec (Instr.pop r) s
        = .next (done ((popped s).2.setStk16 r (popped s).1) (s.pc + 1) (s.params.cost (Instr.pop r)))
    ∧ Costs s.params (Instr.pop r) 12 ∧ Byte0 (0xC1 + 16 * selStk r) (Instr.pop r)

/-- For every pair and every state with memory in its canonical form (an invariant, EveryStepKeepsTheInvariant) whose two stack
bytes SP-1 and SP-2 are plain RAM (work RAM, its echo, external RAM, OAM or high RAM), PUSH followed by POP of the same pair
runs, leaves SP as it was, and leaves every register and flag as it was. R151 says so of plain RAM; that the region list is R55
to R58 and R65 is this statement's reading. (Derived from 41_load16_stack.md R150, R151, 20_memory.md R55 to R58, R65.) -/
def Obligations.PushThenPopRestores : Prop :=
  ∀ (r : Stk16) (s : State), s.mem.wf → PlainRam (s.sp - 1) → PlainRam (s.sp - 2) →
    ∃ t u : State, exec (Instr.push r) s = .next t ∧ exec (Instr.pop r) t = .next u
      ∧ u.sp = s.sp ∧ u.bc = s.bc ∧ u.de = s.de ∧ u.hl = s.hl ∧ u.af = s.af

/-- With the carry-in 0 for ADD and the old c for ADC, A becomes the sum modulo 256; z is set when that is 0, n is 0, h is the
carry out of bit 3 and c the carry out of bit 7, both computed over unbounded naturals; PC moves on by 1 or 2, the default cost
is 4 for a register and 8 for (HL) and d8; nothing else changes but what the operand's read changes. That ADC's carry-out counts
the carry-in is an inference the spec marks as its own (R170). (Derived from 42_alu8.md R170, R172, R173, R174, R175, R176,
R177.) -/
def Obligations.AddAndAddWithCarry : Prop :=
  ∀ (adc : Bool) (x : Src8) (s : State),
    let i := Instr.alu (if adc then .adc else .add) x
    let v := source s x
    let cin := (adc && s.cf).toNat
    let sum := s.a.toNat + v.1.toNat + cin
    exec i s = .next (done { v.2 with
        a := BitVec.ofNat 8 sum
        zf := sum % 256 == 0
        nf := false
        hf := decide (s.a.toNat % 16 + v.1.toNat % 16 + cin > 0xF)
        cf := decide (sum > 0xFF) } (s.pc + sourceLength x) (s.params.cost i))
    ∧ Costs s.params i (sourceCost x) ∧ Byte0 (sourceByte (if adc then 1 else 0) x) i

/-- With the borrow-in 0 for SUB and CP and the old c for SBC, the difference is taken modulo 256 and written to A by SUB and
SBC and not by CP; z is set when it is 0, n is 1, h is the borrow into bit 4 and c the borrow out of bit 7, with the operand
plus borrow-in never wrapped; PC moves on by 1 or 2, the default cost is 4 or 8; nothing else changes but what the operand's
read changes. That SBC's borrow-out counts the borrow-in is an inference the spec marks as its own (R171). (Derived from
42_alu8.md R171, R178, R179, R180, R181, R182, R183, R193, R194, R195.) -/
def Obligations.SubtractAndCompare : Prop :=
  ∀ (op : AluOp) (x : Src8) (s : State), (op = .sub ∨ op = .sbc ∨ op = .cp) →
    let i := Instr.alu op x
    let v := source s x
    let cin : Nat := if op = .sbc ∧ s.cf = true then 1 else 0
    let r : Int := (s.a.toNat : Int) - v.1.toNat - cin
    exec i s = .next (done { v.2 with
        a := if op = .cp then s.a else BitVec.ofInt 8 r
        zf := r % 256 == 0
        nf := true
        hf := decide (s.a.toNat % 16 < v.1.toNat % 16 + cin)
        cf := decide (s.a.toNat < v.1.toNat + cin) } (s.pc + sourceLength x) (s.params.cost i))
    ∧ Costs s.params i (sourceCost x)
    ∧ Byte0 (sourceByte (if op = .sub then 2 else if op = .sbc then 3 else 7) x) i

/-- A becomes the bitwise and, exclusive or, or or of A and the operand; z is set when it is 0, n is 0, h is 1 for AND and 0 for
XOR and OR, c is 0; PC moves on by 1 or 2, the default cost is 4 or 8; nothing else changes but what the operand's read changes.
(Formalises R184, R185, R186, R187, R188, R189, R190, R191, R192.) -/
def Obligations.LogicalOperations : Prop :=
  ∀ (op : AluOp) (x : Src8) (s : State), (op = .and ∨ op = .xor ∨ op = .or) →
    let i := Instr.alu op x
    let v := source s x
    let r := if op = .and then s.a &&& v.1 else if op = .xor then s.a ^^^ v.1 else s.a ||| v.1
    exec i s = .next (done { v.2 with
        a := r, zf := r == 0, nf := false, hf := decide (op = .and), cf := false }
        (s.pc + sourceLength x) (s.params.cost i))
    ∧ Costs s.params i (sourceCost x)
    ∧ Byte0 (sourceByte (if op = .and then 4 else if op = .xor then 5 else 6) x) i

/-- INC adds 1 and DEC takes 1 modulo 256, in the register, or in the cell at HL by one bus read and then one bus write; z is
set when the old value is 0xFF (INC) or 0x01 (DEC), n is 0 or 1, h is set when the old low nibble is 0xF or 0x0, c is kept; PC +
1; the default cost is 4 for a register and 12 for (HL); nothing else changes but what the bus accesses change. (Formalises
R196, R197, R198, R199.) -/
def Obligations.IncrementDecrementByte : Prop :=
  ∀ (x : Opnd) (s : State),
    let v := operand s x
    let i := match x with | .reg r => Instr.incR r | .mhl => .incMhl
    let d := match x with | .reg r => Instr.decR r | .mhl => .decMhl
    let k := match x with | .reg _ => 4 | .mhl => 12
    (exec i s = .next (done { putOperand v.2 x (BitVec.ofNat 8 (v.1.toNat + 1)) with
        zf := v.1 == 0xFF, nf := false, hf := v.1.toNat % 16 == 0xF } (s.pc + 1) (s.params.cost i))
      ∧ Costs s.params i k ∧ Byte0 (0x04 + 8 * selOpnd x) i)
    ∧ (exec d s = .next (done { putOperand v.2 x (BitVec.ofInt 8 ((v.1.toNat : Int) - 1)) with
        zf := v.1 == 0x01, nf := true, hf := v.1.toNat % 16 == 0x0 } (s.pc + 1) (s.params.cost d))
      ∧ Costs s.params d k ∧ Byte0 (0x05 + 8 * selOpnd x) d)

/-- With n 0, 6 is added when h is set or the low nibble of the old A is above 9, and 0x60 (setting c) when c is set or the old
A is above 0x99; with n 1, 6 is subtracted when h is set and 0x60 when c is set, c kept; the result is modulo 256; z from it, h
0, n kept; PC + 1; default cost 4; nothing else changes. (Formalises R200.) -/
def Obligations.DecimalAdjust : Prop :=
  ∀ s : State,
    let lowCorr : Nat := if s.hf = true ∨ (s.nf = false ∧ s.a.toNat % 16 > 9) then 0x06 else 0
    let above : Bool := s.cf || (!s.nf && decide (s.a.toNat > 0x99))
    let corr : Nat := lowCorr + (if above then 0x60 else 0)
    let r : Int := if s.nf then (s.a.toNat : Int) - corr else (s.a.toNat : Int) + corr
    exec .daa s = .next (done { s with
        a := BitVec.ofInt 8 r, zf := r % 256 == 0, hf := false, cf := above } (s.pc + 1) (s.params.cost .daa))
    ∧ Costs s.params .daa 4 ∧ Byte0 0x27 .daa

/-- CPL complements A and sets n and h, z and c kept; SCF clears n and h and sets c, z kept; CCF clears n and h and complements
c, z kept; PC + 1; default cost 4; nothing else changes. (Formalises R201, R202, R203.) -/
def Obligations.ComplementAndCarryFlag : Prop :=
  ∀ s : State,
    (exec .cpl s = .next (done { s with a := ~~~s.a, nf := true, hf := true } (s.pc + 1) (s.params.cost .cpl))
      ∧ Costs s.params .cpl 4 ∧ Byte0 0x2F .cpl)
    ∧ (exec .scf s = .next (done { s with nf := false, hf := false, cf := true } (s.pc + 1) (s.params.cost .scf))
      ∧ Costs s.params .scf 4 ∧ Byte0 0x37 .scf)
    ∧ (exec .ccf s = .next (done { s with nf := false, hf := false, cf := !s.cf } (s.pc + 1) (s.params.cost .ccf))
      ∧ Costs s.params .ccf 4 ∧ Byte0 0x3F .ccf)

/-- For BC, DE, HL and SP, HL becomes the sum modulo 2^16; n is 0, h is the carry out of bit 11, c the carry out of bit 15, z is
kept even when the result is 0; PC + 1; default cost 8; nothing else changes. (Formalises R210.) -/
def Obligations.AddToHl : Prop :=
  ∀ (r : Reg16) (s : State),
    let i := Instr.addHl r
    let sum := s.hl.toNat + (s.getReg16 r).toNat
    exec i s = .next (done { s with
        h := BitVec.ofNat 8 (sum / 256), l := BitVec.ofNat 8 sum, nf := false
        hf := decide (s.hl.toNat % 0x1000 + (s.getReg16 r).toNat % 0x1000 > 0x0FFF)
        cf := decide (sum > 0xFFFF) } (s.pc + 1) (s.params.cost i))
    ∧ Costs s.params i 8 ∧ Byte0 (0x09 + 16 * sel16 r) i

/-- For BC, DE, HL and SP, INC rr adds 1 and DEC rr takes 1 modulo 2^16; no flag changes, in particular not z; PC + 1; default
cost 8; nothing else changes. (Formalises R211, R212.) -/
def Obligations.StepSixteenBit : Prop :=
  ∀ (r : Reg16) (s : State),
    (exec (Instr.inc16 r) s
        = .next (done (s.setReg16 r (BitVec.ofNat 16 ((s.getReg16 r).toNat + 1))) (s.pc + 1)
            (s.params.cost (Instr.inc16 r)))
      ∧ Costs s.params (Instr.inc16 r) 8 ∧ Byte0 (0x03 + 16 * sel16 r) (Instr.inc16 r))
    ∧ (exec (Instr.dec16 r) s
        = .next (done (s.setReg16 r (BitVec.ofInt 16 (((s.getReg16 r).toNat : Int) - 1))) (s.pc + 1)
            (s.params.cost (Instr.dec16 r)))
      ∧ Costs s.params (Instr.dec16 r) 8 ∧ Byte0 (0x0B + 16 * sel16 r) (Instr.dec16 r))

/-- A is rotated left or right by one, circularly or through c; c becomes the bit shifted out; z, n and h are 0 whatever the
result; PC + 1; default cost 4; nothing else changes. (Formalises R220, R221, R222, R223.) -/
def Obligations.RotateAccumulator : Prop :=
  ∀ s : State,
    (exec .rlca s = .next (done { s with
        a := rotated .rlc s.a s.cf, zf := false, nf := false, hf := false, cf := s.a.getLsbD 7 } (s.pc + 1)
        (s.params.cost .rlca)) ∧ Costs s.params .rlca 4 ∧ Byte0 0x07 .rlca)
    ∧ (exec .rrca s = .next (done { s with
        a := rotated .rrc s.a s.cf, zf := false, nf := false, hf := false, cf := s.a.getLsbD 0 } (s.pc + 1)
        (s.params.cost .rrca)) ∧ Costs s.params .rrca 4 ∧ Byte0 0x0F .rrca)
    ∧ (exec .rla s = .next (done { s with
        a := rotated .rl s.a s.cf, zf := false, nf := false, hf := false, cf := s.a.getLsbD 7 } (s.pc + 1)
        (s.params.cost .rla)) ∧ Costs s.params .rla 4 ∧ Byte0 0x17 .rla)
    ∧ (exec .rra s = .next (done { s with
        a := rotated .rr s.a s.cf, zf := false, nf := false, hf := false, cf := s.a.getLsbD 0 } (s.pc + 1)
        (s.params.cost .rra)) ∧ Costs s.params .rra 4 ∧ Byte0 0x1F .rra)

/-- For every register and for the cell at HL, the value is rotated by one left or right, circularly or through c, and c becomes
the bit shifted out; z is set when the result is 0, n and h are 0; a register form writes the register, the (HL) form makes one
bus read and then one bus write at HL; PC + 2; the default cost is 8 or 16; nothing else changes but what the bus accesses
change. (Formalises R225, R226, R227, R228, R229, R230, R231, R232.) -/
def Obligations.PrefixedRotates : Prop :=
  ∀ (op : RotOp) (x : Opnd) (s : State), (op = .rlc ∨ op = .rrc ∨ op = .rl ∨ op = .rr) →
    let v := operand s x
    let r := rotated op v.1 s.cf
    exec (Instr.rot op x) s = .next (done { putOperand v.2 x r with
        zf := r == 0, nf := false, hf := false, cf := shiftedOut op v.1 } (s.pc + 2)
        (s.params.cost (Instr.rot op x)))
    ∧ Costs s.params (Instr.rot op x) (operandCost x) ∧ ByteCb (8 * selRot op + selOpnd x) (Instr.rot op x)

/-- For every register and for the cell at HL, the value is shifted left, shifted right with bit 7 kept, has its nibbles
exchanged, or is shifted right with 0 brought in; c becomes the bit shifted out, and 0 for SWAP; z is set when the result is 0,
n and h are 0; a register form writes the register, the (HL) form makes one bus read and then one bus write at HL; PC + 2; the
default cost is 8 or 16; nothing else changes but what the bus accesses change. (Formalises R233, R234, R235, R236, R237, R238,
R239, R240.) -/
def Obligations.PrefixedShiftsAndSwap : Prop :=
  ∀ (op : RotOp) (x : Opnd) (s : State), (op = .sla ∨ op = .sra ∨ op = .swap ∨ op = .srl) →
    let v := operand s x
    let r := rotated op v.1 s.cf
    exec (Instr.rot op x) s = .next (done { putOperand v.2 x r with
        zf := r == 0, nf := false, hf := false, cf := shiftedOut op v.1 } (s.pc + 2)
        (s.params.cost (Instr.rot op x)))
    ∧ Costs s.params (Instr.rot op x) (operandCost x) ∧ ByteCb (8 * selRot op + selOpnd x) (Instr.rot op x)

/-- For every bit b and operand: BIT sets z when bit b is 0, n to 0, h to 1, keeps c and writes nothing back; RES clears bit b
and SET sets it, with no flag written, the (HL) forms by one bus read and then one bus write made even when the bit had that
value; PC + 2; the default cost is 8 or 16 (BIT on (HL) included); nothing else changes but what the bus accesses change.
(Formalises R241, R242, R243, R244, R245, R246.) -/
def Obligations.BitTestResetSet : Prop :=
  ∀ (b : Fin 8) (x : Opnd) (s : State),
    let v := operand s x
    (exec (Instr.bit b x) s = .next (done { v.2 with
        zf := v.1.toNat / 2 ^ b.val % 2 == 0, nf := false, hf := true } (s.pc + 2) (s.params.cost (Instr.bit b x)))
      ∧ Costs s.params (Instr.bit b x) (operandCost x) ∧ ByteCb (0x40 + 8 * b.val + selOpnd x) (Instr.bit b x))
    ∧ (exec (Instr.res b x) s
        = .next (done (putOperand v.2 x (v.1 &&& BitVec.ofNat 8 (255 - 2 ^ b.val))) (s.pc + 2)
            (s.params.cost (Instr.res b x)))
      ∧ Costs s.params (Instr.res b x) (operandCost x) ∧ ByteCb (0x80 + 8 * b.val + selOpnd x) (Instr.res b x))
    ∧ (exec (Instr.set b x) s
        = .next (done (putOperand v.2 x (v.1 ||| BitVec.ofNat 8 (2 ^ b.val))) (s.pc + 2)
            (s.params.cost (Instr.set b x)))
      ∧ Costs s.params (Instr.set b x) (operandCost x) ∧ ByteCb (0xC0 + 8 * b.val + selOpnd x) (Instr.set b x))

/-- JP a16 goes to the immediate (cost 16); JP cc,a16 goes there when the condition holds (16) and to PC + 3 otherwise (12); JP
HL goes to HL itself and reads no memory (4); JR r8 goes to PC + 2 plus the signed immediate modulo 2^16 (12); JR cc,r8 does so
when the condition holds (12) and goes to PC + 2 otherwise (8). Nothing else changes but what reading the immediate changes.
(Formalises R250, R251, R252, R253, R254.) -/
def Obligations.Jumps : Prop :=
  ∀ s : State,
    let target := BitVec.ofInt 16 ((s.pc.toNat : Int) + 2 + (imm8 s).1.toInt)
    (exec .jpA16 s = .next (done (imm16 s).2 (imm16 s).1 (s.params.cost .jpA16))
      ∧ Costs s.params .jpA16 16 ∧ Byte0 0xC3 .jpA16)
    ∧ (exec .jpHl s = .next (done s (s.h ++ s.l) (s.params.cost .jpHl)) ∧ Costs s.params .jpHl 4 ∧ Byte0 0xE9 .jpHl)
    ∧ (exec .jrR8 s = .next (done (imm8 s).2 target (s.params.cost .jrR8)) ∧ Costs s.params .jrR8 12 ∧ Byte0 0x18 .jrR8)
    ∧ ∀ cc : Cond,
      (holds s cc → exec (Instr.jpCc cc) s = .next (done (imm16 s).2 (imm16 s).1 (s.params.costTaken (Instr.jpCc cc))))
      ∧ (¬ holds s cc → exec (Instr.jpCc cc) s = .next (done (imm16 s).2 (s.pc + 3) (s.params.cost (Instr.jpCc cc))))
      ∧ CostsTaken s.params (Instr.jpCc cc) 16 ∧ Costs s.params (Instr.jpCc cc) 12
      ∧ Byte0 (0xC2 + 8 * selCond cc) (Instr.jpCc cc)
      ∧ (holds s cc → exec (Instr.jrCc cc) s = .next (done (imm8 s).2 target (s.params.costTaken (Instr.jrCc cc))))
      ∧ (¬ holds s cc → exec (Instr.jrCc cc) s = .next (done (imm8 s).2 (s.pc + 2) (s.params.cost (Instr.jrCc cc))))
      ∧ CostsTaken s.params (Instr.jrCc cc) 12 ∧ Costs s.params (Instr.jrCc cc) 8
      ∧ Byte0 (0x20 + 8 * selCond cc) (Instr.jrCc cc)

/-- CALL a16 reads the immediate, then pushes PC + 3 high byte first, and goes to the immediate (cost 24); CALL cc,a16 does so
when the condition holds (24), and otherwise pushes nothing and goes to PC + 3 (12); RST t pushes PC + 1 and goes to 8t (16).
Nothing else changes but what the bus accesses change. (Formalises R255, R256, R260.) -/
def Obligations.CallsAndRestarts : Prop :=
  ∀ s : State,
    let called := pushed (imm16 s).2 (high (s.pc + 3)) (low (s.pc + 3))
    (exec .callA16 s = .next (done called (imm16 s).1 (s.params.cost .callA16))
      ∧ Costs s.params .callA16 24 ∧ Byte0 0xCD .callA16)
    ∧ (∀ cc : Cond,
      (holds s cc → exec (Instr.callCc cc) s = .next (done called (imm16 s).1 (s.params.costTaken (Instr.callCc cc))))
      ∧ (¬ holds s cc → exec (Instr.callCc cc) s = .next (done (imm16 s).2 (s.pc + 3) (s.params.cost (Instr.callCc cc))))
      ∧ CostsTaken s.params (Instr.callCc cc) 24 ∧ Costs s.params (Instr.callCc cc) 12
      ∧ Byte0 (0xC4 + 8 * selCond cc) (Instr.callCc cc))
    ∧ ∀ t : Fin 8,
      exec (Instr.rst t) s
          = .next (done (pushed s (high (s.pc + 1)) (low (s.pc + 1))) (BitVec.ofNat 16 (8 * t.val))
              (s.params.cost (Instr.rst t)))
      ∧ Costs s.params (Instr.rst t) 16 ∧ Byte0 (0xC7 + 8 * t.val) (Instr.rst t)

/-- RET pops PC (cost 16); RET cc pops PC when the condition holds (20), and otherwise reads no stack and goes to PC + 1 (8);
RETI pops PC and sets IME at once, leaving ei_pending as it was (16). Nothing else changes but what the bus reads change.
(Formalises R257, R258, R259.) -/
def Obligations.Returns : Prop :=
  ∀ s : State,
    (exec .ret s = .next (done (popped s).2 (popped s).1 (s.params.cost .ret))
      ∧ Costs s.params .ret 16 ∧ Byte0 0xC9 .ret)
    ∧ (exec .reti s = .next (done { (popped s).2 with ime := true } (popped s).1 (s.params.cost .reti))
      ∧ Costs s.params .reti 16 ∧ Byte0 0xD9 .reti)
    ∧ ∀ cc : Cond,
      (holds s cc → exec (Instr.retCc cc) s = .next (done (popped s).2 (popped s).1 (s.params.costTaken (Instr.retCc cc))))
      ∧ (¬ holds s cc → exec (Instr.retCc cc) s = .next (done s (s.pc + 1) (s.params.cost (Instr.retCc cc))))
      ∧ CostsTaken s.params (Instr.retCc cc) 20 ∧ Costs s.params (Instr.retCc cc) 8
      ∧ Byte0 (0xC0 + 8 * selCond cc) (Instr.retCc cc)

/-- NOP only moves PC on by 1; DI clears IME and a deferred enable; EI writes no state at execute (step S7 arms the latch, see
StepRunsTheDecodedInstruction); each moves PC on by 1, costs 4 by default and changes nothing else. The rules of NOP and DI are
stated whole; of EI's rule only the part at execute. (Formalises R270, R272.) -/
def Obligations.NopDiEi : Prop :=
  ∀ s : State,
    (exec .nop s = .next (done s (s.pc + 1) (s.params.cost .nop)) ∧ Costs s.params .nop 4 ∧ Byte0 0x00 .nop)
    ∧ (exec .di s = .next (done { s with ime := false, eiPending := false } (s.pc + 1) (s.params.cost .di))
      ∧ Costs s.params .di 4 ∧ Byte0 0xF3 .di)
    ∧ (exec .ei s = .next (done s (s.pc + 1) (s.params.cost .ei)) ∧ Costs s.params .ei 4 ∧ Byte0 0xFB .ei)

/-- With IME 0 and some bit set in both IF and IE (bits 4 to 0), HALT sets halt_bug and leaves halted as it was; in every other
state it sets halted and leaves halt_bug as it was; PC + 1; default cost 4; nothing else changes. (Formalises R271.) -/
def Obligations.HaltOrHaltBug : Prop :=
  ∀ s : State,
    (s.ime = false ∧ s.ifBits &&& s.ie.setWidth 5 ≠ 0 →
      exec .halt s = .next (done { s with haltBug := true } (s.pc + 1) (s.params.cost .halt)))
    ∧ (¬ (s.ime = false ∧ s.ifBits &&& s.ie.setWidth 5 ≠ 0) →
      exec .halt s = .next (done { s with halted := true } (s.pc + 1) (s.params.cost .halt)))
    ∧ Costs s.params .halt 4 ∧ Byte0 0x76 .halt

/-- With STOP_BEHAVIOUR fatal, STOP raises Fatal(StopUnmodelled): only the fatal condition is set (and the model's own cycles
field is 0); with nop2 it moves PC on by 2, costs 4 by default, and changes nothing else. That STOP under fatal answers a next
state is the model's reading (log entry 6, DEDUCED); the cycles field there is the model's own (log entry 5, DESIGN CHOICE).
(Derived from 46_cpu_control.md R274, log entries 5 and 6.) -/
def Obligations.StopFatalOrSkip : Prop :=
  ∀ s : State,
    (s.params.stopBehaviour = .fatal →
      exec .stop s = .next { s with fatal := some .stopUnmodelled, cycles := 0 })
    ∧ (s.params.stopBehaviour = .nop2 → exec .stop s = .next (done s (s.pc + 2) (s.params.cost .stop)))
    ∧ Costs s.params .stop 4 ∧ Byte0 0x10 .stop

/-- For every instruction, when exec answers a next state, a bus read at any address outside the PPU windows gives what it gave
before, unless the instruction stores to an address that is that byte (an echo address is its work RAM byte), or stores to SC,
DIV or TAC, whose writes may also change IF (SC) and TIMA (DIV, TAC). The addresses stored to are computed from HL, BC, DE, C,
SP and the immediates before the instruction. An instruction with no entry in StoresTo leaves every such read as before.
(Derived from 20_memory.md R50, R52, R57, R72, R74, 40_load8.md, 41_load16_stack.md, 44_rotate_shift_bit.md R224,
45_control_flow.md.) -/
def Obligations.StoresTouchOnlyTheirAddress : Prop :=
  ∀ (i : Instr) (s t : State), exec i s = .next t →
    ∀ addr : Word, ¬ PpuWindow addr → (∀ stored : Word, StoresTo s i stored → ¬ Touches stored addr) →
      (t.read addr).1 = (s.read addr).1

/-- For every instruction in the table of R14, each flag marked unchanged keeps its value, each flag marked 0 or 1 has that
value, when exec answers a next state; an instruction with no row leaves all four flags as they were. What a flag marked *
becomes is stated by the statements of the rules the table cites. (Formalises R14.) -/
def Obligations.FlagWritersTable : Prop :=
  ∀ (i : Instr) (s t : State), exec i s = .next t →
    (∀ z n h c : FlagMark, FlagRow i z n h c →
      z.Obeyed s.zf t.zf ∧ n.Obeyed s.nf t.nf ∧ h.Obeyed s.hf t.hf ∧ c.Obeyed s.cf t.cf)
    ∧ ((∀ z n h c : FlagMark, ¬ FlagRow i z n h c) →
      t.zf = s.zf ∧ t.nf = s.nf ∧ t.hf = s.hf ∧ t.cf = s.cf)

/-- For every instruction, when exec answers a next state: IME differs only after DI (then 0) or RETI (then 1); halted and
halt_bug differ only after HALT; ei_pending differs only after DI; fatal differs only after STOP; the parameters, the host's
inputs to come and the clock are as before. Those three fields are the model's own, and so is this last clause (log entries 4, 7
and 8, DESIGN CHOICE); that STOP's fatal condition is a next state is the model's reading (log entry 6, DEDUCED). (Derived from
10_state.md R17 to R21, 60_exceptions.md R310, R317, 00_scope.md R5, log entries 4, 6, 7 and 8.) -/
def Obligations.EngineStateWriters : Prop :=
  ∀ (i : Instr) (s t : State), exec i s = .next t →
    (t.ime ≠ s.ime → (i = .di ∧ t.ime = false) ∨ (i = .reti ∧ t.ime = true))
    ∧ (t.halted ≠ s.halted → i = .halt) ∧ (t.haltBug ≠ s.haltBug → i = .halt)
    ∧ (t.eiPending ≠ s.eiPending → i = .di) ∧ (t.fatal ≠ s.fatal → i = .stop)
    ∧ t.params = s.params ∧ t.host = s.host ∧ t.clock = s.clock

/-- For every instruction that is neither a control transfer nor STOP, exec answers a next state whose PC is the old PC plus the
instruction's length in bytes (modulo 2^16), and every conditional transfer that is not taken does the same. (Derived from
10_state.md R16, 30_encoding.md R90, 45_control_flow.md R251, R254, R256, R258.) -/
def Obligations.FallThroughAdvancesPc : Prop :=
  ∀ (i : Instr) (s : State),
    (¬ Transfer i → i ≠ .stop → ∃ t, exec i s = .next t ∧ t.pc = s.pc + BitVec.ofNat 16 i.length)
    ∧ ∀ cc : Cond, ¬ holds s cc →
      i = Instr.jpCc cc ∨ i = Instr.jrCc cc ∨ i = Instr.callCc cc ∨ i = Instr.retCc cc →
      ∃ t, exec i s = .next t ∧ t.pc = s.pc + BitVec.ofNat 16 i.length

/-- decode(op, false) is an instruction exactly when that instruction's opcode bytes are the one byte op; decode(op2, true) is
one exactly when its opcode bytes are 0xCB and op2; decode(op, false) is none exactly for the 11 bytes of R106 and for 0xCB,
which is never asked; decode(op2, true) is never none. (Derived from 30_encoding.md R100, R106, R108, opcode_table.json match
and mask columns.) -/
def Obligations.DecodeInvertsTheOpcodeTable : Prop :=
  ∀ (op : Byte) (i : Instr),
    (decode op false = some i ↔ i.opcodeBytes = [op]) ∧ (decode op true = some i ↔ i.opcodeBytes = [0xCB, op])
    ∧ (decode op false = none ↔ op = 0xCB ∨ op ∈ unassigned) ∧ decode op true ≠ none

/-- For every well-formed instruction (one of the 500 with exactly the operand bytes its format has, at any values) and any
bytes after it, the decoder reads from its encoding that instruction with those operand bytes, and leaves the bytes after it.
(Derived from 30_encoding.md R90, R100, R107, R108.) -/
def Obligations.DecodeOfEncodeIsTheInstruction : Prop :=
  ∀ (c : CodedInstr) (rest : List Byte), c.wf = true → decodeBytes (encode c ++ rest) = .ok (c, rest)

/-- One or two encodings of each family, written out bit by bit from the rules of spec/30_encoding.md and the instruction rules,
decode to the instruction they stand for; DOC's two encoded instructions 3E 05 and C6 03 are among them. (Derived from
30_encoding.md R90 to R107, 42_alu8.md R174, 40_load8.md R123.) -/
def Obligations.SampleWordsDecode : Prop :=
  decodeBytes [0b00111110, 0x05] = .ok (⟨.ldAD8, [0x05]⟩, [])
    ∧ decodeBytes [0b11000110, 0x03] = .ok (⟨.addAD8, [0x03]⟩, [])
    ∧ decodeBytes [0b01000001] = .ok (⟨.ldBC, []⟩, []) ∧ decodeBytes [0b01110110] = .ok (⟨.halt, []⟩, [])
    ∧ decodeBytes [0b00100001, 0x34, 0x12] = .ok (⟨.ldHlD16, [0x34, 0x12]⟩, [])
    ∧ decodeBytes [0b11110101] = .ok (⟨.pushAf, []⟩, []) ∧ decodeBytes [0b10011100] = .ok (⟨.sbcAH, []⟩, [])
    ∧ decodeBytes [0b00111001] = .ok (⟨.addHlSp, []⟩, []) ∧ decodeBytes [0b00011111] = .ok (⟨.rra, []⟩, [])
    ∧ decodeBytes [0b11001011, 0b00110111] = .ok (⟨.cbSwapA, []⟩, [])
    ∧ decodeBytes [0b11001011, 0b01111110] = .ok (⟨.bit7Mhl, []⟩, [])
    ∧ decodeBytes [0b11011100, 0x00, 0x02] = .ok (⟨.callCA16, [0x00, 0x02]⟩, [])
    ∧ decodeBytes [0b11101111] = .ok (⟨.rst28, []⟩, []) ∧ decodeBytes [0b11111011] = .ok (⟨.ei, []⟩, [])

/-- For every state and every address, the byte a bus read returns is the one of the table of R51, row by row; outside the
windows of the PPU collaborator the read changes nothing, and inside them only the collaborator's own history grows, by the one
call read_vram(addr - 0x8000) in VRAM and read_register(addr) in the LCD registers. That a read changes no state of the core is
an inference the spec marks as its own (R51); the history is the model's form of the collaborator (log entry 8). (Derived from
20_memory.md R51 to R65, log entry 8.) -/
def Obligations.ReadByTheTable : Prop :=
  ∀ (s : State) (addr : Word),
    (s.read addr).1 = busRead s addr ∧ (¬ PpuWindow addr → (s.read addr).2 = s)
    ∧ (0x8000 ≤ addr.toNat ∧ addr.toNat ≤ 0x9FFF → (s.read addr).2 =
      { s with ppu := ⟨s.clock, .readVram (BitVec.ofNat 13 (addr.toNat - 0x8000))⟩ :: s.ppu })
    ∧ (0xFF40 ≤ addr.toNat ∧ addr.toNat ≤ 0xFF4B → (s.read addr).2 =
      { s with ppu := ⟨s.clock, .readRegister addr⟩ :: s.ppu })

/-- A write below 0x8000 and a write to an unmapped address (0xFEA0 to 0xFEFF and the I/O addresses no register has) changes
nothing; a write to external RAM, work RAM, OAM or high RAM stores the byte there and changes nothing else; a write to an echo
address stores it 0x2000 lower; a write to VRAM or an LCD register is one call of the collaborator and nothing else. The offsets
of VRAM and of the echo are inferences the spec marks as its own (R54, R57); the list of calls is the model's form of the
collaborator (log entry 8). (Derived from 20_memory.md R52, R53, R54, R55, R56, R57, R58, R59, R62, R64, R65, log entry 8.) -/
def Obligations.WriteToMemoryRegions : Prop :=
  ∀ (s : State) (addr : Word) (v : Byte),
    let n := addr.toNat
    (n ≤ 0x7FFF → s.write addr v = s)
    ∧ (0x8000 ≤ n ∧ n ≤ 0x9FFF →
      s.write addr v = { s with ppu := ⟨s.clock, .writeVram (BitVec.ofNat 13 (n - 0x8000)) v⟩ :: s.ppu }
      ∧ (s.read addr).1 = Config.ppuReadVram s.ppu s.clock (BitVec.ofNat 13 (n - 0x8000)))
    ∧ (PlainRam addr → s.write addr v = { s with mem := s.mem.writeByte (home addr) v }
      ∧ (s.read addr).1 = s.mem.readByte (home addr))
    ∧ ((0xFEA0 ≤ n ∧ n ≤ 0xFEFF) ∨ n = 0xFF00 ∨ n = 0xFF03 ∨ (0xFF08 ≤ n ∧ n ≤ 0xFF0E) ∨ (0xFF10 ≤ n ∧ n ≤ 0xFF3F)
        ∨ (0xFF4C ≤ n ∧ n ≤ 0xFF7F) → s.write addr v = s ∧ (s.read addr).1 = 0xFF)
    ∧ (0xFF40 ≤ n ∧ n ≤ 0xFF4B → s.write addr v = { s with ppu := ⟨s.clock, .writeRegister addr v⟩ :: s.ppu })

/-- A write to 0xFF01 stores SB; a write to 0xFF02 with bit 7 set appends SB to the output, stores the value with bit 7 cleared,
and requests the Serial interrupt exactly when SERIAL_IRQ_WIRED is true, and with bit 7 clear stores the value; a write to
0xFF0F replaces the five IF bits, which read back under three 1 bits; a write to 0xFFFF stores IE, which reads back whole.
Nothing else changes. (Formalises R22, R23, R60, R63.) -/
def Obligations.WriteToSerialAndInterruptRegisters : Prop :=
  ∀ (s : State) (v : Byte),
    s.write 0xFF01 v = { s with sb := v } ∧ (s.read 0xFF01).1 = s.sb ∧ (s.read 0xFF02).1 = s.sc
    ∧ (v.toNat < 128 → s.write 0xFF02 v = { s with sc := v })
    ∧ (128 ≤ v.toNat → s.write 0xFF02 v = { s with
        out := s.out ++ [s.sb], sc := BitVec.ofNat 8 (v.toNat - 128)
        ifBits := if s.params.serialIrqWired then s.ifBits ||| 0b01000 else s.ifBits })
    ∧ s.write 0xFF0F v = { s with ifBits := BitVec.ofNat 5 v.toNat }
    ∧ (s.read 0xFF0F).1 = 0xE0 ||| s.ifBits.setWidth 8
    ∧ s.write 0xFFFF v = { s with ie := v } ∧ (s.read 0xFFFF).1 = s.ie

/-- A write to DIV clears the counter whatever the value, clears prev_bit, and steps TIMA exactly when prev_bit was 1; a write
to TIMA stores it and cancels a pending reload; a write to TMA stores it; a write to TAC stores its three bits, sets prev_bit to
the bit now selected, and steps TIMA exactly when prev_bit was 1 and that bit is 0. A step of TIMA from 0xFF gives 0x00 and arms
a reload of 4 ticks. Nothing else changes. (Formalises R343, R344, R345, R346.) -/
def Obligations.WriteToTimerRegisters : Prop :=
  ∀ (s : State) (v : Byte),
    let stepped (s : State) (falls : Bool) : State := if falls then { s with
      tima := BitVec.ofNat 8 (s.tima.toNat + 1), reload := if s.tima = 0xFF then some 4 else s.reload } else s
    let now := watched (BitVec.ofNat 3 v.toNat) s.counter
    s.write 0xFF04 v = { stepped s s.prevBit with counter := 0, prevBit := false }
    ∧ s.write 0xFF05 v = { s with tima := v, reload := none }
    ∧ s.write 0xFF06 v = { s with tma := v }
    ∧ s.write 0xFF07 v = { stepped s (s.prevBit && !now) with tac := BitVec.ofNat 3 v.toNat, prevBit := now }

/-- For every RAM or echo address and every byte: after the write, a read at every address that stands for the same byte gives
the byte written, and a read at every other address outside the PPU windows gives what it gave before; the memory keeps its
canonical form. The canonical form is the model's (log entry 11). (Derived from 20_memory.md R50, R55 to R58, R65, R74, log
entry 11.) -/
def Obligations.RamKeepsWhatIsWritten : Prop :=
  ∀ (s : State) (addr other : Word) (v : Byte), PlainRam addr → s.mem.wf →
    (home other = home addr → ((s.write addr v).read other).1 = v)
    ∧ (home other ≠ home addr → ¬ PpuWindow other → ((s.write addr v).read other).1 = (s.read other).1)
    ∧ (s.write addr v).mem.wf

/-- For every state, when a step answers a next state, a bus read at every address below 0x8000 gives what it gave before,
whatever the instruction, the dispatch, the host and the timer did. (Derived from 20_memory.md R53, 10_state.md R29,
20_memory.md R73.) -/
def Obligations.RomNeverChanges : Prop :=
  ∀ s t : State, step s = .next t → ∀ addr : Word, addr.toNat ≤ 0x7FFF → (t.read addr).1 = (s.read addr).1

/-- Request sets one IF bit and nothing else; GetPending answers a source exactly when its bit is set in both IF and IE and no
lower bit is, and none exactly when no bit is; AnyPending is true exactly when GetPending answers a source, whatever IME is;
Service clears that one IF bit and nothing else, and its vector is 0x0040 + 8 times the bit number. (Formalises R302, R303,
R304, R305.) -/
def Obligations.InterruptControllerOperations : Prop :=
  ∀ (s : State) (src : Source),
    s.request src = { s with ifBits := s.ifBits ||| BitVec.ofNat 5 (2 ^ bitOf src) }
    ∧ (s.getPending = some src ↔ Chosen s src)
    ∧ (s.getPending = none ↔ ∀ k < 5, ¬ Pending s k)
    ∧ (s.anyPending = true ↔ s.getPending ≠ none)
    ∧ s.service src = { s with ifBits := s.ifBits &&& BitVec.ofNat 5 (31 - 2 ^ bitOf src) }
    ∧ src.vector = BitVec.ofNat 16 (0x40 + 8 * bitOf src)

/-- In a state that is not fatal, where no interrupt is dispatched and the engine is not halted (after the host's actions and
the wake), when the bytes at PC decode to a well-formed instruction, step is exec of it at the state after the fetch (PC moved
back by one and the latch cleared when halt_bug is set), followed by step S7 and by as many ticks as the instruction cost; when
the instruction raises the fatal condition, by neither. (Derived from 60_exceptions.md R310, R314 to R318, R320, R330,
20_memory.md R75, log entry 6.) -/
def Obligations.StepRunsTheDecodedInstruction : Prop :=
  ∀ (s t : State) (c : CodedInstr) (more rest : List Byte),
    let b := atBoundary s
    let b0 := b.read b.pc
    let b1 := b0.2.read (b.pc + 1)
    let f : State := if b0.1 = 0xCB then b1.2 else b0.2
    let g : State := if f.haltBug then { f with haltBug := false, pc := f.pc - 1 } else f
    Fetches s → decodeBytes (b0.1 :: b1.1 :: more) = .ok (c, rest) → exec c.instr g = .next t →
      (t.fatal = none → step s = .next (State.elapse (afterS7 c.instr t) t.cycles))
      ∧ (t.fatal ≠ none → step s = .next t)

/-- In a state that is not fatal with IME 1 (after the host's actions and the wake), when a source is pending and no lower bit
is, the step clears IME and ei_pending, pushes PC high byte first, clears that source's IF bit after the push, sets PC to 0x0040
+ 8 times its bit, costs 20 and is followed by 20 ticks; whatever the bytes at PC are, and with halted cleared; nothing else
changes. (Formalises R312.) -/
def Obligations.InterruptDispatch : Prop :=
  ∀ (s : State) (src : Source), s.fatal = none →
    let b := atBoundary s
    b.ime = true → Chosen b src →
    let p := pushed { b with ime := false, eiPending := false } (high b.pc) (low b.pc)
    b.halted = false ∧ step s = .next (State.elapse { p with
      ifBits := p.ifBits &&& BitVec.ofNat 5 (31 - 2 ^ bitOf src)
      pc := BitVec.ofNat 16 (0x40 + 8 * bitOf src), cycles := 20 } 20)

/-- In a state that is not fatal and halted, when no interrupt is pending (after the host's actions), the step changes nothing
but the T-cycle count and the 4 ticks that follow; the model's wake, S1, clears halted when an interrupt is pending, whatever
IME is, and changes nothing otherwise; so where one is pending a step is the step from the same state with halted 0. (Formalises
R311, R313.) -/
def Obligations.HaltedIdleStep : Prop :=
  ∀ s : State, s.fatal = none →
    ((atBoundary s).ifBits &&& (atBoundary s).ie.setWidth 5 ≠ 0 → (atBoundary s).halted = false)
    ∧ State.wake s.hostPhase = atBoundary s
    ∧ ((atBoundary s).ifBits &&& (atBoundary s).ie.setWidth 5 ≠ 0 → step s = step { s with halted := false })
    ∧ ((atBoundary s).ifBits &&& (atBoundary s).ie.setWidth 5 = 0 → (atBoundary s).halted = true →
      step s = .next (State.elapse { atBoundary s with cycles := 4 } 4))

/-- In a state that reaches its fetch, when the fetched instruction runs and the step answers a state that is not fatal: after
EI the latch is armed and IME is what it was, or 1 when an enable was already deferred; after every other instruction the latch
is clear; after DI IME is 0 even with an enable deferred; after RETI IME is 1; after every instruction but DI and RETI IME is 1
exactly when it was 1 or an enable was deferred. The order of the two halves of S7 is the spec's decision D25 (R317). (Derived
from 46_cpu_control.md R272, R273, 60_exceptions.md R317, 70_reset_and_hazards.md R370, 45_control_flow.md R259.) -/
def Obligations.EnableTakesEffectOneInstructionLate : Prop :=
  ∀ (s t : State) (i : Instr), Fetches s → (State.fetch (atBoundary s)).instr = some i → step s = .next t → t.fatal = none →
    let b := atBoundary s
    (t.eiPending = true ↔ i = .ei) ∧ (i = .di → t.ime = false) ∧ (i = .reti → t.ime = true)
    ∧ (i ≠ .di → i ≠ .reti → (t.ime = true ↔ b.ime = true ∨ b.eiPending = true))

/-- In a state that reaches its fetch, when the byte at PC is one of the 11 unassigned values, the step sets the fatal condition
with that byte and changes nothing else (halt_bug, PC and the timer as they were; only the bus read's effect on the
collaborator, and the model's cycles field at 0); and in a fatal state a step answers the fault of the recorded reason. That the
raising step answers a next state (DEDUCED) and the following step a fault (DESIGN CHOICE) is the model's form of 'no step is
defined' (log entry 6); the cycles field is the model's own (log entry 5, DESIGN CHOICE). (Derived from 46_cpu_control.md R276,
60_exceptions.md R330, log entries 5 and 6.) -/
def Obligations.UnassignedOpcodeIsFatal : Prop :=
  ∀ s : State,
    (Fetches s → (State.read (atBoundary s) (atBoundary s).pc).1 ∈ unassigned →
      step s = .next { (State.read (atBoundary s) (atBoundary s).pc).2 with
        fatal := some (.unassignedOpcode (State.read (atBoundary s) (atBoundary s).pc).1), cycles := 0 })
    ∧ ∀ r : Fault, s.fatal = some r → step s = .fault r

/-- In a state that reaches its fetch with halt_bug set and PC outside the PPU windows, when the byte at PC decodes to an
instruction that is no control transfer, not STOP and not HALT, the step answers a state whose PC is PC - 1 plus the
instruction's length and whose halt_bug is 0; so after a 1-byte instruction PC is where it was, and LD r,d8 loads its own opcode
byte. (Derived from 60_exceptions.md R315, 30_encoding.md R98, 70_reset_and_hazards.md R372.) -/
def Obligations.HaltBugRefetches : Prop :=
  ∀ (s : State) (i : Instr),
    let b := atBoundary s
    Fetches s → b.haltBug = true → ¬ PpuWindow b.pc → decode (b.read b.pc).1 false = some i →
    ¬ Transfer i → i ≠ .stop → i ≠ .halt →
    ∃ t, step s = .next t ∧ t.pc = b.pc - 1 + BitVec.ofNat 16 i.length ∧ t.haltBug = false
      ∧ (i.length = 1 → t.pc = b.pc)
      ∧ ∀ r : Reg8, i = Instr.ldRD8 r → t.getReg r = (b.read b.pc).1

/-- Whatever requests and clear_output calls the host makes before a step, in any order and number: an IF bit is then 1 exactly
when it was 1 or its source was requested; the output is empty if clear_output is among them and as it was otherwise; nothing
else changes, and an empty queue changes nothing. is_halted, has_output and get_output read halted and the output. A step that
answers a next state has used the first list of host actions and leaves the parameters as they were. The queue of inputs in the
state is the model's form (log entries 4 and 7). (Derived from 60_exceptions.md R302, R321, R322, 00_scope.md R5, log entries 4
and 7.) -/
def Obligations.HostRequestsAndOutput : Prop :=
  ∀ s t : State,
    (∀ (acts : List HostAction) (rest : List (List HostAction)), s.host = acts :: rest →
      s.hostPhase = { s with
        host := rest, ifBits := s.hostPhase.ifBits, out := if HostAction.clearOutput ∈ acts then [] else s.out }
      ∧ ∀ k < 5, (s.hostPhase.ifBits.getLsbD k = true ↔
          s.ifBits.getLsbD k = true ∨ ∃ src, HostAction.request src ∈ acts ∧ bitOf src = k))
    ∧ (s.host = [] → s.hostPhase = s)
    ∧ s.isHalted = s.halted ∧ (s.hasOutput = true ↔ s.out ≠ []) ∧ s.getOutput = s.out
    ∧ (step s = .next t → t.params = s.params ∧ t.host = s.host.tail)

/-- One tick adds 1 to the counter modulo 2^16; a countdown at 1 loads TMA into TIMA, ends, and is the only case reported as
fired, and a countdown above 1 goes down by 1; then the selected bit is taken from the new counter, and when prev_bit was 1 and
it is 0 TIMA (the loaded value in the same tick) goes up by 1, or from 0xFF to 0x00 arming a countdown of 4; prev_bit becomes
the selected bit. Nothing else changes. The premise is that the countdown is none or 1 to 4, an invariant
(EveryStepKeepsTheInvariant). (Formalises R340, R341, R342.) -/
def Obligations.TimerTickByTheRules : Prop :=
  ∀ s : State, reloadOk s.reload = true →
    let counter := BitVec.ofNat 16 (s.counter.toNat + 1)
    let fired := decide (s.reload = some 1)
    let tima := if fired then s.tma else s.tima
    let reload := if fired then none else s.reload.map (fun k => k - 1)
    let falls := s.prevBit && !watched s.tac counter
    s.timerTick = (fired, { s with
      counter := counter, prevBit := watched s.tac counter
      tima := if falls then BitVec.ofNat 8 (tima.toNat + 1) else tima
      reload := if falls && decide (tima = 0xFF) then some 4 else reload })

/-- In a state with no countdown, TIMA 0xFF and prev_bit 1, when the next tick makes the selected bit 0 (a falling edge): after
1, 2, 3 and 4 ticks TIMA is 0x00 and IF is as before; after 5 ticks (4 after the overflow) TIMA is TMA, the countdown is over
and the Timer bit of IF is set, the other IF bits as before. Derived by the spec from R340 to R342 (R349). (Derived from
60_exceptions.md R349, R340 to R342, R348.) -/
def Obligations.TimerOverflowReloadsAfterFourTicks : Prop :=
  ∀ s : State, s.reload = none → s.tima = 0xFF → s.prevBit = true → watched s.tac (s.counter + 1) = false →
    4 ≤ s.tac.toNat →
    (∀ k, 1 ≤ k → k ≤ 4 → (State.ticks k s).tima = 0x00 ∧ (State.ticks k s).ifBits = s.ifBits)
    ∧ (State.ticks 5 s).tima = s.tma ∧ (State.ticks 5 s).reload = none
    ∧ (State.ticks 5 s).ifBits = s.ifBits ||| 0b00100

/-- For every state with the timer enabled, prev_bit the selected bit, no countdown, and TIMA not 0xFF: after one whole period
of ticks (1024, 16, 64, 256 by the select code), TIMA is 1 higher, nothing was requested, the countdown is none, prev_bit is
what it was, and the counter is a period higher modulo 2^16. Derived by the spec from R340 to R342 (R349). (Derived from
60_exceptions.md R349, R340 to R342.) -/
def Obligations.TimaCountsOncePerPeriod : Prop :=
  ∀ s : State, 4 ≤ s.tac.toNat → s.prevBit = watched s.tac s.counter → s.reload = none → s.tima ≠ 0xFF →
    State.ticks (period s.tac) s = { s with
      counter := BitVec.ofNat 16 (s.counter.toNat + period s.tac), tima := BitVec.ofNat 8 (s.tima.toNat + 1) }

/-- With every RESET parameter at its default, the state after new has the values of R360 to R365; for any parameters PC is
0x0100 and the latches, IF, IE, the timer but for the counter, and the serial registers have those values; a read in ROM gives
the image's byte, 0x00 past its end, and bytes past 0x8000 are not visible; with RESET_RAM at its default every RAM byte is
0x00; and State.reset is new of an empty image at the default parameters with no host inputs. That last clause is the model's
choice (log entries 9 and 10, DESIGN CHOICE, and 12, DEDUCED); the inputs are the model's form of the host (log entry 7, DESIGN
CHOICE), and so are the parameters in the state (log entry 4, DESIGN CHOICE). (Derived from 70_reset_and_hazards.md R360, R361,
R362, R363, R364, R365, log entries 4, 7, 9, 10 and 12.) -/
def Obligations.ResetState : Prop :=
  ∀ (r : Config.ResetParams) (p : Config.Params) (inputs : List (List HostAction)) (rom : List Byte),
    let s := State.new r p inputs rom
    let d := State.new {} p inputs rom
    s.pc = 0x0100 ∧ s.sp = r.sp ∧ s.a = r.a ∧ s.zf = r.z ∧ s.nf = r.n ∧ s.hf = r.h ∧ s.cf = r.c
    ∧ s.b = r.regB ∧ s.c = r.regC ∧ s.d = r.regD ∧ s.e = r.regE ∧ s.h = r.regH ∧ s.l = r.regL
    ∧ d.sp = 0xFFFE ∧ d.a = 0x01 ∧ d.f = 0xB0 ∧ d.bc = 0x0013 ∧ d.de = 0x00D8 ∧ d.hl = 0x014D
    ∧ s.ime = false ∧ s.halted = false ∧ s.haltBug = false ∧ s.eiPending = false ∧ s.fatal = none
    ∧ s.ifBits = 0 ∧ s.ie = 0 ∧ (s.read 0xFF0F).1 = 0xE0
    ∧ s.counter = r.counter ∧ d.counter = 0 ∧ s.tima = 0 ∧ s.tma = 0 ∧ s.tac = 0 ∧ s.prevBit = false ∧ s.reload = none
    ∧ s.sb = 0 ∧ s.sc = 0 ∧ s.out = []
    ∧ (∀ addr : Word, addr.toNat ≤ 0x7FFF → (s.read addr).1 = rom.getD addr.toNat 0x00)
    ∧ (∀ addr : Word, PlainRam addr → (d.read addr).1 = 0x00)
    ∧ State.new {} {} [] [] = State.reset

/-- The state after reset has its memory in canonical form over the cells the bus stores, its reload countdown none or 1 to 4,
and prev_bit the bit the timer selects. The invariant's first two clauses are about the model's own form of memory (log entry
11). (Derived from 70_reset_and_hazards.md R363, R364, 10_state.md R24, R28, log entry 11.) -/
def Obligations.ResetMeetsTheInvariant : Prop :=
  StateOk State.reset

/-- For every state that meets the invariant, when a step answers a next state that state meets it: memory stays in canonical
form with entries only for bytes the bus stores, the reload countdown stays none or 1 to 4, and prev_bit is the bit the timer
selects at the counter's present value. The clauses about the form of memory are the model's own (log entry 11). (Derived from
10_state.md R24, R28, 60_exceptions.md R340 to R346, 20_memory.md R52, log entry 11.) -/
def Obligations.EveryStepKeepsTheInvariant : Prop :=
  ∀ s t : State, StateOk s → step s = .next t → StateOk t

/-- When CYCLES meets the constraints of R380, every step that answers a state that is not fatal leaves a T-cycle count from 4
to 24, and the collaborator's clock has moved by exactly that count. The clock is the model's own (log entry 8). (Derived from
70_reset_and_hazards.md R380, 60_exceptions.md R312, R313, R320, 00_scope.md R2, log entry 8.) -/
def Obligations.StepCostsBetween4And24 : Prop :=
  ∀ s t : State, s.params.costsOk = true → step s = .next t → t.fatal = none →
    4 ≤ t.cycles ∧ t.cycles ≤ 24 ∧ t.clock = s.clock + t.cycles

/-- For every two numbers below 100 in packed BCD in A and B: ADD A,B and then DAA run and leave the packed BCD of the sum
modulo 100 with c set exactly when it is 100 or more; SUB B and then DAA leave the packed BCD of the difference modulo 100 with
c set exactly when it is negative. Derived from R170, R171 and R200; R200 says DAA adjusts after an addition or subtraction of
packed BCD operands. (Derived from 42_alu8.md R170, R171, R200.) -/
def Obligations.DecimalArithmetic : Prop :=
  ∀ (s : State) (x y : Nat), x < 100 → y < 100 → s.a = bcd x → s.b = bcd y →
    (∃ t u, exec (Instr.alu .add (.reg .b)) s = .next t ∧ exec .daa t = .next u
      ∧ u.a = bcd ((x + y) % 100) ∧ (u.cf = true ↔ 100 ≤ x + y))
    ∧ ∃ t u, exec (Instr.alu .sub (.reg .b)) s = .next t ∧ exec .daa t = .next u
      ∧ u.a = bcd ((x + 100 - y) % 100) ∧ (u.cf = true ↔ x < y)

/-- In a state that is not fatal with IME 1 and a source pending (after the host's actions and the wake), with memory in its
canonical form (an invariant) and two stack bytes in plain RAM: the step takes the interrupt, and RETI executed in the handler's
first state answers a state with PC, SP, the seven registers and the flags as they were at the boundary, IME 1, and the serviced
source's IF bit cleared unless the timer's ticks requested it again. (Derived from 60_exceptions.md R312, R332, R333,
45_control_flow.md R259, 41_load16_stack.md R150, R151.) -/
def Obligations.DispatchThenReti : Prop :=
  ∀ (s : State) (src : Source), s.fatal = none → s.mem.wf →
    let b := atBoundary s
    b.ime = true → Chosen b src → PlainRam (b.sp - 1) → PlainRam (b.sp - 2) →
    ∃ t u, step s = .next t ∧ t.ime = false ∧ t.pc = BitVec.ofNat 16 (0x40 + 8 * bitOf src)
      ∧ (src ≠ .timer → t.ifBits.getLsbD (bitOf src) = false)
      ∧ exec .reti t = .next u ∧ u.pc = b.pc ∧ u.sp = b.sp ∧ u.ime = true
      ∧ u.af = b.af ∧ u.bc = b.bc ∧ u.de = b.de ∧ u.hl = b.hl
end

