-- ==== Sys2Proof/Laws/Memory.lean ====
section
/-! SUPPORT. The laws of memory: a read after a write, and the canonical form kept by every operation. -/

namespace Sys2Proof.Machine

@[simp] theorem Memory.readByte_nil (k : Nat) : Memory.readByte [] k = 0 := rfl

@[simp] theorem Memory.unlisted_eq : Memory.unlisted = 0 := rfl

/-- A cell below every listed cell reads as unlisted. -/
theorem Memory.readByte_of_lt {m : Memory} {k : Nat} (h : ∀ x ∈ m, k < x.1) : Memory.readByte m k = 0 := by
  induction m with
  | nil => rfl
  | cons x rest ih =>
    have hx := h x (by simp)
    simp only [Memory.readByte]
    rw [if_neg (by omega)]
    exact ih (fun y hy => h y (by simp [hy]))

/-- The cells of a written memory are the old ones and the one written. -/
theorem Memory.mem_writeByte {m : Memory} {k : Nat} {v : Byte} {x : Host.Cell} (h : x ∈ Memory.writeByte m k v) :
    x ∈ m ∨ (x = (k, v) ∧ v ≠ 0) := by
  induction m with
  | nil =>
    simp only [Memory.writeByte] at h
    split at h
    · simp at h
    · simp only [List.mem_singleton] at h
      exact .inr ⟨h, ‹_›⟩
  | cons y rest ih =>
    obtain ⟨a, w⟩ := y
    simp only [Memory.writeByte] at h
    split at h
    · split at h
      · exact .inl h
      · rcases List.mem_cons.1 h with rfl | h
        · exact .inr ⟨rfl, ‹_›⟩
        · exact .inl h
    · split at h
      · split at h
        · exact .inl (List.mem_cons_of_mem _ h)
        · rcases List.mem_cons.1 h with rfl | h
          · exact .inr ⟨rfl, ‹_›⟩
          · exact .inl (List.mem_cons_of_mem _ h)
      · rcases List.mem_cons.1 h with rfl | h
        · exact .inl (by simp)
        · exact (ih h).imp (List.mem_cons_of_mem _) id

/-- Every write keeps the canonical form. -/
theorem Memory.wf_writeByte {m : Memory} (h : m.wf) (k : Nat) (v : Byte) : (Memory.writeByte m k v).wf := by
  refine ⟨?_, fun x hx => ?_⟩
  · have hp := h.1
    clear h
    induction m with
    | nil => simp only [Memory.writeByte]; split <;> simp
    | cons y rest ih =>
      obtain ⟨a, w⟩ := y
      obtain ⟨hy, hrest⟩ := List.pairwise_cons.1 hp
      simp only [Memory.writeByte]
      split
      · split
        · exact hp
        · refine List.pairwise_cons.2 ⟨fun z hz => ?_, hp⟩
          rcases List.mem_cons.1 hz with rfl | hz
          · assumption
          · have := hy z hz; simp only at *; omega
      · split
        · split
          · exact hrest
          · refine List.pairwise_cons.2 ⟨fun z hz => ?_, hrest⟩
            have := hy z hz; simp only at *; omega
        · refine List.pairwise_cons.2 ⟨fun z hz => ?_, ih hrest⟩
          rcases Memory.mem_writeByte hz with hz | ⟨rfl, -⟩
          · exact hy z hz
          · simp only at *; omega
  · rcases Memory.mem_writeByte hx with hx | ⟨rfl, hv⟩
    · exact h.2 x hx
    · exact hv

/-- A read of the cell just written gives the byte written. -/
theorem Memory.readByte_writeByte_same {m : Memory} (h : m.wf) (k : Nat) (v : Byte) :
    Memory.readByte (Memory.writeByte m k v) k = v := by
  have hp := h.1
  clear h
  induction m with
  | nil => simp only [Memory.writeByte]; split <;> simp_all [Memory.readByte]
  | cons y rest ih =>
    obtain ⟨a, w⟩ := y
    obtain ⟨hy, hrest⟩ := List.pairwise_cons.1 hp
    simp only at hy
    simp only [Memory.writeByte]
    split
    · split
      · simp only [Memory.readByte]
        rw [if_neg (by omega), Memory.readByte_of_lt (fun z hz => by have := hy z hz; omega)]
        exact Eq.symm ‹_›
      · simp [Memory.readByte]
    · split
      · subst k
        split
        · rw [Memory.readByte_of_lt hy]; exact Eq.symm ‹_›
        · simp [Memory.readByte]
      · simp only [Memory.readByte]
        rw [if_neg (by omega)]
        exact ih hrest

/-- A read of any other cell gives what it gave before. -/
theorem Memory.readByte_writeByte_other (m : Memory) {k j : Nat} (v : Byte) (hne : j ≠ k) :
    Memory.readByte (Memory.writeByte m k v) j = Memory.readByte m j := by
  induction m with
  | nil => simp only [Memory.writeByte]; split <;> simp [Memory.readByte, Ne.symm hne]
  | cons y rest ih =>
    obtain ⟨a, w⟩ := y
    simp only [Memory.writeByte]
    split
    · split <;> simp [Memory.readByte, Ne.symm hne]
    · split
      · subst k
        split <;> simp [Memory.readByte, Ne.symm hne]
      · simp only [Memory.readByte, ih]

end Sys2Proof.Machine
end

