-- ==== Sys2Proof/Laws/State.lean ====
section
/-! SUPPORT. One lemma per field per named update of the state, true by rfl: later proofs unfold no record update. -/

namespace Sys2Proof.Machine

variable (s : State)

/-! `State.finish` writes pc, cycles. -/

@[simp] theorem State.finish_a (p : Word) (k : Nat) : (s.finish p k).a = s.a := rfl
@[simp] theorem State.finish_b (p : Word) (k : Nat) : (s.finish p k).b = s.b := rfl
@[simp] theorem State.finish_c (p : Word) (k : Nat) : (s.finish p k).c = s.c := rfl
@[simp] theorem State.finish_d (p : Word) (k : Nat) : (s.finish p k).d = s.d := rfl
@[simp] theorem State.finish_e (p : Word) (k : Nat) : (s.finish p k).e = s.e := rfl
@[simp] theorem State.finish_h (p : Word) (k : Nat) : (s.finish p k).h = s.h := rfl
@[simp] theorem State.finish_l (p : Word) (k : Nat) : (s.finish p k).l = s.l := rfl
@[simp] theorem State.finish_zf (p : Word) (k : Nat) : (s.finish p k).zf = s.zf := rfl
@[simp] theorem State.finish_nf (p : Word) (k : Nat) : (s.finish p k).nf = s.nf := rfl
@[simp] theorem State.finish_hf (p : Word) (k : Nat) : (s.finish p k).hf = s.hf := rfl
@[simp] theorem State.finish_cf (p : Word) (k : Nat) : (s.finish p k).cf = s.cf := rfl
@[simp] theorem State.finish_sp (p : Word) (k : Nat) : (s.finish p k).sp = s.sp := rfl
@[simp] theorem State.finish_pc (p : Word) (k : Nat) : (s.finish p k).pc = p := rfl
@[simp] theorem State.finish_ime (p : Word) (k : Nat) : (s.finish p k).ime = s.ime := rfl
@[simp] theorem State.finish_halted (p : Word) (k : Nat) : (s.finish p k).halted = s.halted := rfl
@[simp] theorem State.finish_haltBug (p : Word) (k : Nat) : (s.finish p k).haltBug = s.haltBug := rfl
@[simp] theorem State.finish_eiPending (p : Word) (k : Nat) : (s.finish p k).eiPending = s.eiPending := rfl
@[simp] theorem State.finish_fatal (p : Word) (k : Nat) : (s.finish p k).fatal = s.fatal := rfl
@[simp] theorem State.finish_ifBits (p : Word) (k : Nat) : (s.finish p k).ifBits = s.ifBits := rfl
@[simp] theorem State.finish_ie (p : Word) (k : Nat) : (s.finish p k).ie = s.ie := rfl
@[simp] theorem State.finish_counter (p : Word) (k : Nat) : (s.finish p k).counter = s.counter := rfl
@[simp] theorem State.finish_tima (p : Word) (k : Nat) : (s.finish p k).tima = s.tima := rfl
@[simp] theorem State.finish_tma (p : Word) (k : Nat) : (s.finish p k).tma = s.tma := rfl
@[simp] theorem State.finish_tac (p : Word) (k : Nat) : (s.finish p k).tac = s.tac := rfl
@[simp] theorem State.finish_prevBit (p : Word) (k : Nat) : (s.finish p k).prevBit = s.prevBit := rfl
@[simp] theorem State.finish_reload (p : Word) (k : Nat) : (s.finish p k).reload = s.reload := rfl
@[simp] theorem State.finish_sb (p : Word) (k : Nat) : (s.finish p k).sb = s.sb := rfl
@[simp] theorem State.finish_sc (p : Word) (k : Nat) : (s.finish p k).sc = s.sc := rfl
@[simp] theorem State.finish_out (p : Word) (k : Nat) : (s.finish p k).out = s.out := rfl
@[simp] theorem State.finish_mem (p : Word) (k : Nat) : (s.finish p k).mem = s.mem := rfl
@[simp] theorem State.finish_ppu (p : Word) (k : Nat) : (s.finish p k).ppu = s.ppu := rfl
@[simp] theorem State.finish_clock (p : Word) (k : Nat) : (s.finish p k).clock = s.clock := rfl
@[simp] theorem State.finish_cycles (p : Word) (k : Nat) : (s.finish p k).cycles = k := rfl
@[simp] theorem State.finish_host (p : Word) (k : Nat) : (s.finish p k).host = s.host := rfl
@[simp] theorem State.finish_params (p : Word) (k : Nat) : (s.finish p k).params = s.params := rfl

/-! `State.setHl` writes h, l. -/

@[simp] theorem State.setHl_a (v : Word) : (s.setHl v).a = s.a := rfl
@[simp] theorem State.setHl_b (v : Word) : (s.setHl v).b = s.b := rfl
@[simp] theorem State.setHl_c (v : Word) : (s.setHl v).c = s.c := rfl
@[simp] theorem State.setHl_d (v : Word) : (s.setHl v).d = s.d := rfl
@[simp] theorem State.setHl_e (v : Word) : (s.setHl v).e = s.e := rfl
@[simp] theorem State.setHl_h (v : Word) : (s.setHl v).h = hiByte v := rfl
@[simp] theorem State.setHl_l (v : Word) : (s.setHl v).l = loByte v := rfl
@[simp] theorem State.setHl_zf (v : Word) : (s.setHl v).zf = s.zf := rfl
@[simp] theorem State.setHl_nf (v : Word) : (s.setHl v).nf = s.nf := rfl
@[simp] theorem State.setHl_hf (v : Word) : (s.setHl v).hf = s.hf := rfl
@[simp] theorem State.setHl_cf (v : Word) : (s.setHl v).cf = s.cf := rfl
@[simp] theorem State.setHl_sp (v : Word) : (s.setHl v).sp = s.sp := rfl
@[simp] theorem State.setHl_pc (v : Word) : (s.setHl v).pc = s.pc := rfl
@[simp] theorem State.setHl_ime (v : Word) : (s.setHl v).ime = s.ime := rfl
@[simp] theorem State.setHl_halted (v : Word) : (s.setHl v).halted = s.halted := rfl
@[simp] theorem State.setHl_haltBug (v : Word) : (s.setHl v).haltBug = s.haltBug := rfl
@[simp] theorem State.setHl_eiPending (v : Word) : (s.setHl v).eiPending = s.eiPending := rfl
@[simp] theorem State.setHl_fatal (v : Word) : (s.setHl v).fatal = s.fatal := rfl
@[simp] theorem State.setHl_ifBits (v : Word) : (s.setHl v).ifBits = s.ifBits := rfl
@[simp] theorem State.setHl_ie (v : Word) : (s.setHl v).ie = s.ie := rfl
@[simp] theorem State.setHl_counter (v : Word) : (s.setHl v).counter = s.counter := rfl
@[simp] theorem State.setHl_tima (v : Word) : (s.setHl v).tima = s.tima := rfl
@[simp] theorem State.setHl_tma (v : Word) : (s.setHl v).tma = s.tma := rfl
@[simp] theorem State.setHl_tac (v : Word) : (s.setHl v).tac = s.tac := rfl
@[simp] theorem State.setHl_prevBit (v : Word) : (s.setHl v).prevBit = s.prevBit := rfl
@[simp] theorem State.setHl_reload (v : Word) : (s.setHl v).reload = s.reload := rfl
@[simp] theorem State.setHl_sb (v : Word) : (s.setHl v).sb = s.sb := rfl
@[simp] theorem State.setHl_sc (v : Word) : (s.setHl v).sc = s.sc := rfl
@[simp] theorem State.setHl_out (v : Word) : (s.setHl v).out = s.out := rfl
@[simp] theorem State.setHl_mem (v : Word) : (s.setHl v).mem = s.mem := rfl
@[simp] theorem State.setHl_ppu (v : Word) : (s.setHl v).ppu = s.ppu := rfl
@[simp] theorem State.setHl_clock (v : Word) : (s.setHl v).clock = s.clock := rfl
@[simp] theorem State.setHl_cycles (v : Word) : (s.setHl v).cycles = s.cycles := rfl
@[simp] theorem State.setHl_host (v : Word) : (s.setHl v).host = s.host := rfl
@[simp] theorem State.setHl_params (v : Word) : (s.setHl v).params = s.params := rfl

/-! `State.setFlags` writes zf, nf, hf, cf. -/

@[simp] theorem State.setFlags_a (z n h c : Bool) : (s.setFlags z n h c).a = s.a := rfl
@[simp] theorem State.setFlags_b (z n h c : Bool) : (s.setFlags z n h c).b = s.b := rfl
@[simp] theorem State.setFlags_c (z n h c : Bool) : (s.setFlags z n h c).c = s.c := rfl
@[simp] theorem State.setFlags_d (z n h c : Bool) : (s.setFlags z n h c).d = s.d := rfl
@[simp] theorem State.setFlags_e (z n h c : Bool) : (s.setFlags z n h c).e = s.e := rfl
@[simp] theorem State.setFlags_h (z n h c : Bool) : (s.setFlags z n h c).h = s.h := rfl
@[simp] theorem State.setFlags_l (z n h c : Bool) : (s.setFlags z n h c).l = s.l := rfl
@[simp] theorem State.setFlags_zf (z n h c : Bool) : (s.setFlags z n h c).zf = z := rfl
@[simp] theorem State.setFlags_nf (z n h c : Bool) : (s.setFlags z n h c).nf = n := rfl
@[simp] theorem State.setFlags_hf (z n h c : Bool) : (s.setFlags z n h c).hf = h := rfl
@[simp] theorem State.setFlags_cf (z n h c : Bool) : (s.setFlags z n h c).cf = c := rfl
@[simp] theorem State.setFlags_sp (z n h c : Bool) : (s.setFlags z n h c).sp = s.sp := rfl
@[simp] theorem State.setFlags_pc (z n h c : Bool) : (s.setFlags z n h c).pc = s.pc := rfl
@[simp] theorem State.setFlags_ime (z n h c : Bool) : (s.setFlags z n h c).ime = s.ime := rfl
@[simp] theorem State.setFlags_halted (z n h c : Bool) : (s.setFlags z n h c).halted = s.halted := rfl
@[simp] theorem State.setFlags_haltBug (z n h c : Bool) : (s.setFlags z n h c).haltBug = s.haltBug := rfl
@[simp] theorem State.setFlags_eiPending (z n h c : Bool) : (s.setFlags z n h c).eiPending = s.eiPending := rfl
@[simp] theorem State.setFlags_fatal (z n h c : Bool) : (s.setFlags z n h c).fatal = s.fatal := rfl
@[simp] theorem State.setFlags_ifBits (z n h c : Bool) : (s.setFlags z n h c).ifBits = s.ifBits := rfl
@[simp] theorem State.setFlags_ie (z n h c : Bool) : (s.setFlags z n h c).ie = s.ie := rfl
@[simp] theorem State.setFlags_counter (z n h c : Bool) : (s.setFlags z n h c).counter = s.counter := rfl
@[simp] theorem State.setFlags_tima (z n h c : Bool) : (s.setFlags z n h c).tima = s.tima := rfl
@[simp] theorem State.setFlags_tma (z n h c : Bool) : (s.setFlags z n h c).tma = s.tma := rfl
@[simp] theorem State.setFlags_tac (z n h c : Bool) : (s.setFlags z n h c).tac = s.tac := rfl
@[simp] theorem State.setFlags_prevBit (z n h c : Bool) : (s.setFlags z n h c).prevBit = s.prevBit := rfl
@[simp] theorem State.setFlags_reload (z n h c : Bool) : (s.setFlags z n h c).reload = s.reload := rfl
@[simp] theorem State.setFlags_sb (z n h c : Bool) : (s.setFlags z n h c).sb = s.sb := rfl
@[simp] theorem State.setFlags_sc (z n h c : Bool) : (s.setFlags z n h c).sc = s.sc := rfl
@[simp] theorem State.setFlags_out (z n h c : Bool) : (s.setFlags z n h c).out = s.out := rfl
@[simp] theorem State.setFlags_mem (z n h c : Bool) : (s.setFlags z n h c).mem = s.mem := rfl
@[simp] theorem State.setFlags_ppu (z n h c : Bool) : (s.setFlags z n h c).ppu = s.ppu := rfl
@[simp] theorem State.setFlags_clock (z n h c : Bool) : (s.setFlags z n h c).clock = s.clock := rfl
@[simp] theorem State.setFlags_cycles (z n h c : Bool) : (s.setFlags z n h c).cycles = s.cycles := rfl
@[simp] theorem State.setFlags_host (z n h c : Bool) : (s.setFlags z n h c).host = s.host := rfl
@[simp] theorem State.setFlags_params (z n h c : Bool) : (s.setFlags z n h c).params = s.params := rfl

/-! `State.putFlags` writes zf, nf, hf, cf. -/

@[simp] theorem State.putFlags_a (o : AluOut) : (s.putFlags o).a = s.a := rfl
@[simp] theorem State.putFlags_b (o : AluOut) : (s.putFlags o).b = s.b := rfl
@[simp] theorem State.putFlags_c (o : AluOut) : (s.putFlags o).c = s.c := rfl
@[simp] theorem State.putFlags_d (o : AluOut) : (s.putFlags o).d = s.d := rfl
@[simp] theorem State.putFlags_e (o : AluOut) : (s.putFlags o).e = s.e := rfl
@[simp] theorem State.putFlags_h (o : AluOut) : (s.putFlags o).h = s.h := rfl
@[simp] theorem State.putFlags_l (o : AluOut) : (s.putFlags o).l = s.l := rfl
@[simp] theorem State.putFlags_zf (o : AluOut) : (s.putFlags o).zf = o.z := rfl
@[simp] theorem State.putFlags_nf (o : AluOut) : (s.putFlags o).nf = o.n := rfl
@[simp] theorem State.putFlags_hf (o : AluOut) : (s.putFlags o).hf = o.h := rfl
@[simp] theorem State.putFlags_cf (o : AluOut) : (s.putFlags o).cf = o.c := rfl
@[simp] theorem State.putFlags_sp (o : AluOut) : (s.putFlags o).sp = s.sp := rfl
@[simp] theorem State.putFlags_pc (o : AluOut) : (s.putFlags o).pc = s.pc := rfl
@[simp] theorem State.putFlags_ime (o : AluOut) : (s.putFlags o).ime = s.ime := rfl
@[simp] theorem State.putFlags_halted (o : AluOut) : (s.putFlags o).halted = s.halted := rfl
@[simp] theorem State.putFlags_haltBug (o : AluOut) : (s.putFlags o).haltBug = s.haltBug := rfl
@[simp] theorem State.putFlags_eiPending (o : AluOut) : (s.putFlags o).eiPending = s.eiPending := rfl
@[simp] theorem State.putFlags_fatal (o : AluOut) : (s.putFlags o).fatal = s.fatal := rfl
@[simp] theorem State.putFlags_ifBits (o : AluOut) : (s.putFlags o).ifBits = s.ifBits := rfl
@[simp] theorem State.putFlags_ie (o : AluOut) : (s.putFlags o).ie = s.ie := rfl
@[simp] theorem State.putFlags_counter (o : AluOut) : (s.putFlags o).counter = s.counter := rfl
@[simp] theorem State.putFlags_tima (o : AluOut) : (s.putFlags o).tima = s.tima := rfl
@[simp] theorem State.putFlags_tma (o : AluOut) : (s.putFlags o).tma = s.tma := rfl
@[simp] theorem State.putFlags_tac (o : AluOut) : (s.putFlags o).tac = s.tac := rfl
@[simp] theorem State.putFlags_prevBit (o : AluOut) : (s.putFlags o).prevBit = s.prevBit := rfl
@[simp] theorem State.putFlags_reload (o : AluOut) : (s.putFlags o).reload = s.reload := rfl
@[simp] theorem State.putFlags_sb (o : AluOut) : (s.putFlags o).sb = s.sb := rfl
@[simp] theorem State.putFlags_sc (o : AluOut) : (s.putFlags o).sc = s.sc := rfl
@[simp] theorem State.putFlags_out (o : AluOut) : (s.putFlags o).out = s.out := rfl
@[simp] theorem State.putFlags_mem (o : AluOut) : (s.putFlags o).mem = s.mem := rfl
@[simp] theorem State.putFlags_ppu (o : AluOut) : (s.putFlags o).ppu = s.ppu := rfl
@[simp] theorem State.putFlags_clock (o : AluOut) : (s.putFlags o).clock = s.clock := rfl
@[simp] theorem State.putFlags_cycles (o : AluOut) : (s.putFlags o).cycles = s.cycles := rfl
@[simp] theorem State.putFlags_host (o : AluOut) : (s.putFlags o).host = s.host := rfl
@[simp] theorem State.putFlags_params (o : AluOut) : (s.putFlags o).params = s.params := rfl

/-! `State.setAf` writes a, zf, nf, hf, cf. -/

@[simp] theorem State.setAf_a (v : Word) : (s.setAf v).a = hiByte v := rfl
@[simp] theorem State.setAf_b (v : Word) : (s.setAf v).b = s.b := rfl
@[simp] theorem State.setAf_c (v : Word) : (s.setAf v).c = s.c := rfl
@[simp] theorem State.setAf_d (v : Word) : (s.setAf v).d = s.d := rfl
@[simp] theorem State.setAf_e (v : Word) : (s.setAf v).e = s.e := rfl
@[simp] theorem State.setAf_h (v : Word) : (s.setAf v).h = s.h := rfl
@[simp] theorem State.setAf_l (v : Word) : (s.setAf v).l = s.l := rfl
@[simp] theorem State.setAf_zf (v : Word) : (s.setAf v).zf = v.getLsbD 7 := rfl
@[simp] theorem State.setAf_nf (v : Word) : (s.setAf v).nf = v.getLsbD 6 := rfl
@[simp] theorem State.setAf_hf (v : Word) : (s.setAf v).hf = v.getLsbD 5 := rfl
@[simp] theorem State.setAf_cf (v : Word) : (s.setAf v).cf = v.getLsbD 4 := rfl
@[simp] theorem State.setAf_sp (v : Word) : (s.setAf v).sp = s.sp := rfl
@[simp] theorem State.setAf_pc (v : Word) : (s.setAf v).pc = s.pc := rfl
@[simp] theorem State.setAf_ime (v : Word) : (s.setAf v).ime = s.ime := rfl
@[simp] theorem State.setAf_halted (v : Word) : (s.setAf v).halted = s.halted := rfl
@[simp] theorem State.setAf_haltBug (v : Word) : (s.setAf v).haltBug = s.haltBug := rfl
@[simp] theorem State.setAf_eiPending (v : Word) : (s.setAf v).eiPending = s.eiPending := rfl
@[simp] theorem State.setAf_fatal (v : Word) : (s.setAf v).fatal = s.fatal := rfl
@[simp] theorem State.setAf_ifBits (v : Word) : (s.setAf v).ifBits = s.ifBits := rfl
@[simp] theorem State.setAf_ie (v : Word) : (s.setAf v).ie = s.ie := rfl
@[simp] theorem State.setAf_counter (v : Word) : (s.setAf v).counter = s.counter := rfl
@[simp] theorem State.setAf_tima (v : Word) : (s.setAf v).tima = s.tima := rfl
@[simp] theorem State.setAf_tma (v : Word) : (s.setAf v).tma = s.tma := rfl
@[simp] theorem State.setAf_tac (v : Word) : (s.setAf v).tac = s.tac := rfl
@[simp] theorem State.setAf_prevBit (v : Word) : (s.setAf v).prevBit = s.prevBit := rfl
@[simp] theorem State.setAf_reload (v : Word) : (s.setAf v).reload = s.reload := rfl
@[simp] theorem State.setAf_sb (v : Word) : (s.setAf v).sb = s.sb := rfl
@[simp] theorem State.setAf_sc (v : Word) : (s.setAf v).sc = s.sc := rfl
@[simp] theorem State.setAf_out (v : Word) : (s.setAf v).out = s.out := rfl
@[simp] theorem State.setAf_mem (v : Word) : (s.setAf v).mem = s.mem := rfl
@[simp] theorem State.setAf_ppu (v : Word) : (s.setAf v).ppu = s.ppu := rfl
@[simp] theorem State.setAf_clock (v : Word) : (s.setAf v).clock = s.clock := rfl
@[simp] theorem State.setAf_cycles (v : Word) : (s.setAf v).cycles = s.cycles := rfl
@[simp] theorem State.setAf_host (v : Word) : (s.setAf v).host = s.host := rfl
@[simp] theorem State.setAf_params (v : Word) : (s.setAf v).params = s.params := rfl

/-! `State.raiseFatal` writes fatal, cycles. -/

@[simp] theorem State.raiseFatal_a (r : Fault) : (s.raiseFatal r).a = s.a := rfl
@[simp] theorem State.raiseFatal_b (r : Fault) : (s.raiseFatal r).b = s.b := rfl
@[simp] theorem State.raiseFatal_c (r : Fault) : (s.raiseFatal r).c = s.c := rfl
@[simp] theorem State.raiseFatal_d (r : Fault) : (s.raiseFatal r).d = s.d := rfl
@[simp] theorem State.raiseFatal_e (r : Fault) : (s.raiseFatal r).e = s.e := rfl
@[simp] theorem State.raiseFatal_h (r : Fault) : (s.raiseFatal r).h = s.h := rfl
@[simp] theorem State.raiseFatal_l (r : Fault) : (s.raiseFatal r).l = s.l := rfl
@[simp] theorem State.raiseFatal_zf (r : Fault) : (s.raiseFatal r).zf = s.zf := rfl
@[simp] theorem State.raiseFatal_nf (r : Fault) : (s.raiseFatal r).nf = s.nf := rfl
@[simp] theorem State.raiseFatal_hf (r : Fault) : (s.raiseFatal r).hf = s.hf := rfl
@[simp] theorem State.raiseFatal_cf (r : Fault) : (s.raiseFatal r).cf = s.cf := rfl
@[simp] theorem State.raiseFatal_sp (r : Fault) : (s.raiseFatal r).sp = s.sp := rfl
@[simp] theorem State.raiseFatal_pc (r : Fault) : (s.raiseFatal r).pc = s.pc := rfl
@[simp] theorem State.raiseFatal_ime (r : Fault) : (s.raiseFatal r).ime = s.ime := rfl
@[simp] theorem State.raiseFatal_halted (r : Fault) : (s.raiseFatal r).halted = s.halted := rfl
@[simp] theorem State.raiseFatal_haltBug (r : Fault) : (s.raiseFatal r).haltBug = s.haltBug := rfl
@[simp] theorem State.raiseFatal_eiPending (r : Fault) : (s.raiseFatal r).eiPending = s.eiPending := rfl
@[simp] theorem State.raiseFatal_fatal (r : Fault) : (s.raiseFatal r).fatal = some r := rfl
@[simp] theorem State.raiseFatal_ifBits (r : Fault) : (s.raiseFatal r).ifBits = s.ifBits := rfl
@[simp] theorem State.raiseFatal_ie (r : Fault) : (s.raiseFatal r).ie = s.ie := rfl
@[simp] theorem State.raiseFatal_counter (r : Fault) : (s.raiseFatal r).counter = s.counter := rfl
@[simp] theorem State.raiseFatal_tima (r : Fault) : (s.raiseFatal r).tima = s.tima := rfl
@[simp] theorem State.raiseFatal_tma (r : Fault) : (s.raiseFatal r).tma = s.tma := rfl
@[simp] theorem State.raiseFatal_tac (r : Fault) : (s.raiseFatal r).tac = s.tac := rfl
@[simp] theorem State.raiseFatal_prevBit (r : Fault) : (s.raiseFatal r).prevBit = s.prevBit := rfl
@[simp] theorem State.raiseFatal_reload (r : Fault) : (s.raiseFatal r).reload = s.reload := rfl
@[simp] theorem State.raiseFatal_sb (r : Fault) : (s.raiseFatal r).sb = s.sb := rfl
@[simp] theorem State.raiseFatal_sc (r : Fault) : (s.raiseFatal r).sc = s.sc := rfl
@[simp] theorem State.raiseFatal_out (r : Fault) : (s.raiseFatal r).out = s.out := rfl
@[simp] theorem State.raiseFatal_mem (r : Fault) : (s.raiseFatal r).mem = s.mem := rfl
@[simp] theorem State.raiseFatal_ppu (r : Fault) : (s.raiseFatal r).ppu = s.ppu := rfl
@[simp] theorem State.raiseFatal_clock (r : Fault) : (s.raiseFatal r).clock = s.clock := rfl
@[simp] theorem State.raiseFatal_cycles (r : Fault) : (s.raiseFatal r).cycles = 0 := rfl
@[simp] theorem State.raiseFatal_host (r : Fault) : (s.raiseFatal r).host = s.host := rfl
@[simp] theorem State.raiseFatal_params (r : Fault) : (s.raiseFatal r).params = s.params := rfl

/-! `State.request` writes ifBits. -/

@[simp] theorem State.request_a (src : Source) : (s.request src).a = s.a := rfl
@[simp] theorem State.request_b (src : Source) : (s.request src).b = s.b := rfl
@[simp] theorem State.request_c (src : Source) : (s.request src).c = s.c := rfl
@[simp] theorem State.request_d (src : Source) : (s.request src).d = s.d := rfl
@[simp] theorem State.request_e (src : Source) : (s.request src).e = s.e := rfl
@[simp] theorem State.request_h (src : Source) : (s.request src).h = s.h := rfl
@[simp] theorem State.request_l (src : Source) : (s.request src).l = s.l := rfl
@[simp] theorem State.request_zf (src : Source) : (s.request src).zf = s.zf := rfl
@[simp] theorem State.request_nf (src : Source) : (s.request src).nf = s.nf := rfl
@[simp] theorem State.request_hf (src : Source) : (s.request src).hf = s.hf := rfl
@[simp] theorem State.request_cf (src : Source) : (s.request src).cf = s.cf := rfl
@[simp] theorem State.request_sp (src : Source) : (s.request src).sp = s.sp := rfl
@[simp] theorem State.request_pc (src : Source) : (s.request src).pc = s.pc := rfl
@[simp] theorem State.request_ime (src : Source) : (s.request src).ime = s.ime := rfl
@[simp] theorem State.request_halted (src : Source) : (s.request src).halted = s.halted := rfl
@[simp] theorem State.request_haltBug (src : Source) : (s.request src).haltBug = s.haltBug := rfl
@[simp] theorem State.request_eiPending (src : Source) : (s.request src).eiPending = s.eiPending := rfl
@[simp] theorem State.request_fatal (src : Source) : (s.request src).fatal = s.fatal := rfl
@[simp] theorem State.request_ifBits (src : Source) : (s.request src).ifBits = s.ifBits ||| (1#5 <<< src.bit) := rfl
@[simp] theorem State.request_ie (src : Source) : (s.request src).ie = s.ie := rfl
@[simp] theorem State.request_counter (src : Source) : (s.request src).counter = s.counter := rfl
@[simp] theorem State.request_tima (src : Source) : (s.request src).tima = s.tima := rfl
@[simp] theorem State.request_tma (src : Source) : (s.request src).tma = s.tma := rfl
@[simp] theorem State.request_tac (src : Source) : (s.request src).tac = s.tac := rfl
@[simp] theorem State.request_prevBit (src : Source) : (s.request src).prevBit = s.prevBit := rfl
@[simp] theorem State.request_reload (src : Source) : (s.request src).reload = s.reload := rfl
@[simp] theorem State.request_sb (src : Source) : (s.request src).sb = s.sb := rfl
@[simp] theorem State.request_sc (src : Source) : (s.request src).sc = s.sc := rfl
@[simp] theorem State.request_out (src : Source) : (s.request src).out = s.out := rfl
@[simp] theorem State.request_mem (src : Source) : (s.request src).mem = s.mem := rfl
@[simp] theorem State.request_ppu (src : Source) : (s.request src).ppu = s.ppu := rfl
@[simp] theorem State.request_clock (src : Source) : (s.request src).clock = s.clock := rfl
@[simp] theorem State.request_cycles (src : Source) : (s.request src).cycles = s.cycles := rfl
@[simp] theorem State.request_host (src : Source) : (s.request src).host = s.host := rfl
@[simp] theorem State.request_params (src : Source) : (s.request src).params = s.params := rfl

/-! `State.service` writes ifBits. -/

@[simp] theorem State.service_a (src : Source) : (s.service src).a = s.a := rfl
@[simp] theorem State.service_b (src : Source) : (s.service src).b = s.b := rfl
@[simp] theorem State.service_c (src : Source) : (s.service src).c = s.c := rfl
@[simp] theorem State.service_d (src : Source) : (s.service src).d = s.d := rfl
@[simp] theorem State.service_e (src : Source) : (s.service src).e = s.e := rfl
@[simp] theorem State.service_h (src : Source) : (s.service src).h = s.h := rfl
@[simp] theorem State.service_l (src : Source) : (s.service src).l = s.l := rfl
@[simp] theorem State.service_zf (src : Source) : (s.service src).zf = s.zf := rfl
@[simp] theorem State.service_nf (src : Source) : (s.service src).nf = s.nf := rfl
@[simp] theorem State.service_hf (src : Source) : (s.service src).hf = s.hf := rfl
@[simp] theorem State.service_cf (src : Source) : (s.service src).cf = s.cf := rfl
@[simp] theorem State.service_sp (src : Source) : (s.service src).sp = s.sp := rfl
@[simp] theorem State.service_pc (src : Source) : (s.service src).pc = s.pc := rfl
@[simp] theorem State.service_ime (src : Source) : (s.service src).ime = s.ime := rfl
@[simp] theorem State.service_halted (src : Source) : (s.service src).halted = s.halted := rfl
@[simp] theorem State.service_haltBug (src : Source) : (s.service src).haltBug = s.haltBug := rfl
@[simp] theorem State.service_eiPending (src : Source) : (s.service src).eiPending = s.eiPending := rfl
@[simp] theorem State.service_fatal (src : Source) : (s.service src).fatal = s.fatal := rfl
@[simp] theorem State.service_ifBits (src : Source) : (s.service src).ifBits = s.ifBits &&& ~~~(1#5 <<< src.bit) := rfl
@[simp] theorem State.service_ie (src : Source) : (s.service src).ie = s.ie := rfl
@[simp] theorem State.service_counter (src : Source) : (s.service src).counter = s.counter := rfl
@[simp] theorem State.service_tima (src : Source) : (s.service src).tima = s.tima := rfl
@[simp] theorem State.service_tma (src : Source) : (s.service src).tma = s.tma := rfl
@[simp] theorem State.service_tac (src : Source) : (s.service src).tac = s.tac := rfl
@[simp] theorem State.service_prevBit (src : Source) : (s.service src).prevBit = s.prevBit := rfl
@[simp] theorem State.service_reload (src : Source) : (s.service src).reload = s.reload := rfl
@[simp] theorem State.service_sb (src : Source) : (s.service src).sb = s.sb := rfl
@[simp] theorem State.service_sc (src : Source) : (s.service src).sc = s.sc := rfl
@[simp] theorem State.service_out (src : Source) : (s.service src).out = s.out := rfl
@[simp] theorem State.service_mem (src : Source) : (s.service src).mem = s.mem := rfl
@[simp] theorem State.service_ppu (src : Source) : (s.service src).ppu = s.ppu := rfl
@[simp] theorem State.service_clock (src : Source) : (s.service src).clock = s.clock := rfl
@[simp] theorem State.service_cycles (src : Source) : (s.service src).cycles = s.cycles := rfl
@[simp] theorem State.service_host (src : Source) : (s.service src).host = s.host := rfl
@[simp] theorem State.service_params (src : Source) : (s.service src).params = s.params := rfl

/-! `State.ppuCall` writes ppu. -/

@[simp] theorem State.ppuCall_a (q : Config.PpuCall) : (s.ppuCall q).a = s.a := rfl
@[simp] theorem State.ppuCall_b (q : Config.PpuCall) : (s.ppuCall q).b = s.b := rfl
@[simp] theorem State.ppuCall_c (q : Config.PpuCall) : (s.ppuCall q).c = s.c := rfl
@[simp] theorem State.ppuCall_d (q : Config.PpuCall) : (s.ppuCall q).d = s.d := rfl
@[simp] theorem State.ppuCall_e (q : Config.PpuCall) : (s.ppuCall q).e = s.e := rfl
@[simp] theorem State.ppuCall_h (q : Config.PpuCall) : (s.ppuCall q).h = s.h := rfl
@[simp] theorem State.ppuCall_l (q : Config.PpuCall) : (s.ppuCall q).l = s.l := rfl
@[simp] theorem State.ppuCall_zf (q : Config.PpuCall) : (s.ppuCall q).zf = s.zf := rfl
@[simp] theorem State.ppuCall_nf (q : Config.PpuCall) : (s.ppuCall q).nf = s.nf := rfl
@[simp] theorem State.ppuCall_hf (q : Config.PpuCall) : (s.ppuCall q).hf = s.hf := rfl
@[simp] theorem State.ppuCall_cf (q : Config.PpuCall) : (s.ppuCall q).cf = s.cf := rfl
@[simp] theorem State.ppuCall_sp (q : Config.PpuCall) : (s.ppuCall q).sp = s.sp := rfl
@[simp] theorem State.ppuCall_pc (q : Config.PpuCall) : (s.ppuCall q).pc = s.pc := rfl
@[simp] theorem State.ppuCall_ime (q : Config.PpuCall) : (s.ppuCall q).ime = s.ime := rfl
@[simp] theorem State.ppuCall_halted (q : Config.PpuCall) : (s.ppuCall q).halted = s.halted := rfl
@[simp] theorem State.ppuCall_haltBug (q : Config.PpuCall) : (s.ppuCall q).haltBug = s.haltBug := rfl
@[simp] theorem State.ppuCall_eiPending (q : Config.PpuCall) : (s.ppuCall q).eiPending = s.eiPending := rfl
@[simp] theorem State.ppuCall_fatal (q : Config.PpuCall) : (s.ppuCall q).fatal = s.fatal := rfl
@[simp] theorem State.ppuCall_ifBits (q : Config.PpuCall) : (s.ppuCall q).ifBits = s.ifBits := rfl
@[simp] theorem State.ppuCall_ie (q : Config.PpuCall) : (s.ppuCall q).ie = s.ie := rfl
@[simp] theorem State.ppuCall_counter (q : Config.PpuCall) : (s.ppuCall q).counter = s.counter := rfl
@[simp] theorem State.ppuCall_tima (q : Config.PpuCall) : (s.ppuCall q).tima = s.tima := rfl
@[simp] theorem State.ppuCall_tma (q : Config.PpuCall) : (s.ppuCall q).tma = s.tma := rfl
@[simp] theorem State.ppuCall_tac (q : Config.PpuCall) : (s.ppuCall q).tac = s.tac := rfl
@[simp] theorem State.ppuCall_prevBit (q : Config.PpuCall) : (s.ppuCall q).prevBit = s.prevBit := rfl
@[simp] theorem State.ppuCall_reload (q : Config.PpuCall) : (s.ppuCall q).reload = s.reload := rfl
@[simp] theorem State.ppuCall_sb (q : Config.PpuCall) : (s.ppuCall q).sb = s.sb := rfl
@[simp] theorem State.ppuCall_sc (q : Config.PpuCall) : (s.ppuCall q).sc = s.sc := rfl
@[simp] theorem State.ppuCall_out (q : Config.PpuCall) : (s.ppuCall q).out = s.out := rfl
@[simp] theorem State.ppuCall_mem (q : Config.PpuCall) : (s.ppuCall q).mem = s.mem := rfl
@[simp] theorem State.ppuCall_ppu (q : Config.PpuCall) : (s.ppuCall q).ppu = ⟨s.clock, q⟩ :: s.ppu := rfl
@[simp] theorem State.ppuCall_clock (q : Config.PpuCall) : (s.ppuCall q).clock = s.clock := rfl
@[simp] theorem State.ppuCall_cycles (q : Config.PpuCall) : (s.ppuCall q).cycles = s.cycles := rfl
@[simp] theorem State.ppuCall_host (q : Config.PpuCall) : (s.ppuCall q).host = s.host := rfl
@[simp] theorem State.ppuCall_params (q : Config.PpuCall) : (s.ppuCall q).params = s.params := rfl

/-! `State.writeTima` writes tima, reload. -/

@[simp] theorem State.writeTima_a (v : Byte) : (s.writeTima v).a = s.a := rfl
@[simp] theorem State.writeTima_b (v : Byte) : (s.writeTima v).b = s.b := rfl
@[simp] theorem State.writeTima_c (v : Byte) : (s.writeTima v).c = s.c := rfl
@[simp] theorem State.writeTima_d (v : Byte) : (s.writeTima v).d = s.d := rfl
@[simp] theorem State.writeTima_e (v : Byte) : (s.writeTima v).e = s.e := rfl
@[simp] theorem State.writeTima_h (v : Byte) : (s.writeTima v).h = s.h := rfl
@[simp] theorem State.writeTima_l (v : Byte) : (s.writeTima v).l = s.l := rfl
@[simp] theorem State.writeTima_zf (v : Byte) : (s.writeTima v).zf = s.zf := rfl
@[simp] theorem State.writeTima_nf (v : Byte) : (s.writeTima v).nf = s.nf := rfl
@[simp] theorem State.writeTima_hf (v : Byte) : (s.writeTima v).hf = s.hf := rfl
@[simp] theorem State.writeTima_cf (v : Byte) : (s.writeTima v).cf = s.cf := rfl
@[simp] theorem State.writeTima_sp (v : Byte) : (s.writeTima v).sp = s.sp := rfl
@[simp] theorem State.writeTima_pc (v : Byte) : (s.writeTima v).pc = s.pc := rfl
@[simp] theorem State.writeTima_ime (v : Byte) : (s.writeTima v).ime = s.ime := rfl
@[simp] theorem State.writeTima_halted (v : Byte) : (s.writeTima v).halted = s.halted := rfl
@[simp] theorem State.writeTima_haltBug (v : Byte) : (s.writeTima v).haltBug = s.haltBug := rfl
@[simp] theorem State.writeTima_eiPending (v : Byte) : (s.writeTima v).eiPending = s.eiPending := rfl
@[simp] theorem State.writeTima_fatal (v : Byte) : (s.writeTima v).fatal = s.fatal := rfl
@[simp] theorem State.writeTima_ifBits (v : Byte) : (s.writeTima v).ifBits = s.ifBits := rfl
@[simp] theorem State.writeTima_ie (v : Byte) : (s.writeTima v).ie = s.ie := rfl
@[simp] theorem State.writeTima_counter (v : Byte) : (s.writeTima v).counter = s.counter := rfl
@[simp] theorem State.writeTima_tima (v : Byte) : (s.writeTima v).tima = v := rfl
@[simp] theorem State.writeTima_tma (v : Byte) : (s.writeTima v).tma = s.tma := rfl
@[simp] theorem State.writeTima_tac (v : Byte) : (s.writeTima v).tac = s.tac := rfl
@[simp] theorem State.writeTima_prevBit (v : Byte) : (s.writeTima v).prevBit = s.prevBit := rfl
@[simp] theorem State.writeTima_reload (v : Byte) : (s.writeTima v).reload = none := rfl
@[simp] theorem State.writeTima_sb (v : Byte) : (s.writeTima v).sb = s.sb := rfl
@[simp] theorem State.writeTima_sc (v : Byte) : (s.writeTima v).sc = s.sc := rfl
@[simp] theorem State.writeTima_out (v : Byte) : (s.writeTima v).out = s.out := rfl
@[simp] theorem State.writeTima_mem (v : Byte) : (s.writeTima v).mem = s.mem := rfl
@[simp] theorem State.writeTima_ppu (v : Byte) : (s.writeTima v).ppu = s.ppu := rfl
@[simp] theorem State.writeTima_clock (v : Byte) : (s.writeTima v).clock = s.clock := rfl
@[simp] theorem State.writeTima_cycles (v : Byte) : (s.writeTima v).cycles = s.cycles := rfl
@[simp] theorem State.writeTima_host (v : Byte) : (s.writeTima v).host = s.host := rfl
@[simp] theorem State.writeTima_params (v : Byte) : (s.writeTima v).params = s.params := rfl

/-! `State.writeTma` writes tma. -/

@[simp] theorem State.writeTma_a (v : Byte) : (s.writeTma v).a = s.a := rfl
@[simp] theorem State.writeTma_b (v : Byte) : (s.writeTma v).b = s.b := rfl
@[simp] theorem State.writeTma_c (v : Byte) : (s.writeTma v).c = s.c := rfl
@[simp] theorem State.writeTma_d (v : Byte) : (s.writeTma v).d = s.d := rfl
@[simp] theorem State.writeTma_e (v : Byte) : (s.writeTma v).e = s.e := rfl
@[simp] theorem State.writeTma_h (v : Byte) : (s.writeTma v).h = s.h := rfl
@[simp] theorem State.writeTma_l (v : Byte) : (s.writeTma v).l = s.l := rfl
@[simp] theorem State.writeTma_zf (v : Byte) : (s.writeTma v).zf = s.zf := rfl
@[simp] theorem State.writeTma_nf (v : Byte) : (s.writeTma v).nf = s.nf := rfl
@[simp] theorem State.writeTma_hf (v : Byte) : (s.writeTma v).hf = s.hf := rfl
@[simp] theorem State.writeTma_cf (v : Byte) : (s.writeTma v).cf = s.cf := rfl
@[simp] theorem State.writeTma_sp (v : Byte) : (s.writeTma v).sp = s.sp := rfl
@[simp] theorem State.writeTma_pc (v : Byte) : (s.writeTma v).pc = s.pc := rfl
@[simp] theorem State.writeTma_ime (v : Byte) : (s.writeTma v).ime = s.ime := rfl
@[simp] theorem State.writeTma_halted (v : Byte) : (s.writeTma v).halted = s.halted := rfl
@[simp] theorem State.writeTma_haltBug (v : Byte) : (s.writeTma v).haltBug = s.haltBug := rfl
@[simp] theorem State.writeTma_eiPending (v : Byte) : (s.writeTma v).eiPending = s.eiPending := rfl
@[simp] theorem State.writeTma_fatal (v : Byte) : (s.writeTma v).fatal = s.fatal := rfl
@[simp] theorem State.writeTma_ifBits (v : Byte) : (s.writeTma v).ifBits = s.ifBits := rfl
@[simp] theorem State.writeTma_ie (v : Byte) : (s.writeTma v).ie = s.ie := rfl
@[simp] theorem State.writeTma_counter (v : Byte) : (s.writeTma v).counter = s.counter := rfl
@[simp] theorem State.writeTma_tima (v : Byte) : (s.writeTma v).tima = s.tima := rfl
@[simp] theorem State.writeTma_tma (v : Byte) : (s.writeTma v).tma = v := rfl
@[simp] theorem State.writeTma_tac (v : Byte) : (s.writeTma v).tac = s.tac := rfl
@[simp] theorem State.writeTma_prevBit (v : Byte) : (s.writeTma v).prevBit = s.prevBit := rfl
@[simp] theorem State.writeTma_reload (v : Byte) : (s.writeTma v).reload = s.reload := rfl
@[simp] theorem State.writeTma_sb (v : Byte) : (s.writeTma v).sb = s.sb := rfl
@[simp] theorem State.writeTma_sc (v : Byte) : (s.writeTma v).sc = s.sc := rfl
@[simp] theorem State.writeTma_out (v : Byte) : (s.writeTma v).out = s.out := rfl
@[simp] theorem State.writeTma_mem (v : Byte) : (s.writeTma v).mem = s.mem := rfl
@[simp] theorem State.writeTma_ppu (v : Byte) : (s.writeTma v).ppu = s.ppu := rfl
@[simp] theorem State.writeTma_clock (v : Byte) : (s.writeTma v).clock = s.clock := rfl
@[simp] theorem State.writeTma_cycles (v : Byte) : (s.writeTma v).cycles = s.cycles := rfl
@[simp] theorem State.writeTma_host (v : Byte) : (s.writeTma v).host = s.host := rfl
@[simp] theorem State.writeTma_params (v : Byte) : (s.writeTma v).params = s.params := rfl

/-! `State.setReg` writes one of the seven registers; the register written reads back, every other one is kept. -/

@[simp] theorem State.setReg_zf (r : Reg8) (v : Byte) : (s.setReg r v).zf = s.zf := by cases r <;> rfl
@[simp] theorem State.setReg_nf (r : Reg8) (v : Byte) : (s.setReg r v).nf = s.nf := by cases r <;> rfl
@[simp] theorem State.setReg_hf (r : Reg8) (v : Byte) : (s.setReg r v).hf = s.hf := by cases r <;> rfl
@[simp] theorem State.setReg_cf (r : Reg8) (v : Byte) : (s.setReg r v).cf = s.cf := by cases r <;> rfl
@[simp] theorem State.setReg_sp (r : Reg8) (v : Byte) : (s.setReg r v).sp = s.sp := by cases r <;> rfl
@[simp] theorem State.setReg_pc (r : Reg8) (v : Byte) : (s.setReg r v).pc = s.pc := by cases r <;> rfl
@[simp] theorem State.setReg_ime (r : Reg8) (v : Byte) : (s.setReg r v).ime = s.ime := by cases r <;> rfl
@[simp] theorem State.setReg_halted (r : Reg8) (v : Byte) : (s.setReg r v).halted = s.halted := by cases r <;> rfl
@[simp] theorem State.setReg_haltBug (r : Reg8) (v : Byte) : (s.setReg r v).haltBug = s.haltBug := by cases r <;> rfl
@[simp] theorem State.setReg_eiPending (r : Reg8) (v : Byte) : (s.setReg r v).eiPending = s.eiPending := by cases r <;> rfl
@[simp] theorem State.setReg_fatal (r : Reg8) (v : Byte) : (s.setReg r v).fatal = s.fatal := by cases r <;> rfl
@[simp] theorem State.setReg_ifBits (r : Reg8) (v : Byte) : (s.setReg r v).ifBits = s.ifBits := by cases r <;> rfl
@[simp] theorem State.setReg_ie (r : Reg8) (v : Byte) : (s.setReg r v).ie = s.ie := by cases r <;> rfl
@[simp] theorem State.setReg_counter (r : Reg8) (v : Byte) : (s.setReg r v).counter = s.counter := by cases r <;> rfl
@[simp] theorem State.setReg_tima (r : Reg8) (v : Byte) : (s.setReg r v).tima = s.tima := by cases r <;> rfl
@[simp] theorem State.setReg_tma (r : Reg8) (v : Byte) : (s.setReg r v).tma = s.tma := by cases r <;> rfl
@[simp] theorem State.setReg_tac (r : Reg8) (v : Byte) : (s.setReg r v).tac = s.tac := by cases r <;> rfl
@[simp] theorem State.setReg_prevBit (r : Reg8) (v : Byte) : (s.setReg r v).prevBit = s.prevBit := by cases r <;> rfl
@[simp] theorem State.setReg_reload (r : Reg8) (v : Byte) : (s.setReg r v).reload = s.reload := by cases r <;> rfl
@[simp] theorem State.setReg_sb (r : Reg8) (v : Byte) : (s.setReg r v).sb = s.sb := by cases r <;> rfl
@[simp] theorem State.setReg_sc (r : Reg8) (v : Byte) : (s.setReg r v).sc = s.sc := by cases r <;> rfl
@[simp] theorem State.setReg_out (r : Reg8) (v : Byte) : (s.setReg r v).out = s.out := by cases r <;> rfl
@[simp] theorem State.setReg_mem (r : Reg8) (v : Byte) : (s.setReg r v).mem = s.mem := by cases r <;> rfl
@[simp] theorem State.setReg_ppu (r : Reg8) (v : Byte) : (s.setReg r v).ppu = s.ppu := by cases r <;> rfl
@[simp] theorem State.setReg_clock (r : Reg8) (v : Byte) : (s.setReg r v).clock = s.clock := by cases r <;> rfl
@[simp] theorem State.setReg_cycles (r : Reg8) (v : Byte) : (s.setReg r v).cycles = s.cycles := by cases r <;> rfl
@[simp] theorem State.setReg_host (r : Reg8) (v : Byte) : (s.setReg r v).host = s.host := by cases r <;> rfl
@[simp] theorem State.setReg_params (r : Reg8) (v : Byte) : (s.setReg r v).params = s.params := by cases r <;> rfl

@[simp] theorem State.getReg_setReg_same (r : Reg8) (v : Byte) : (s.setReg r v).getReg r = v := by cases r <;> rfl

theorem State.getReg_setReg_other (r r' : Reg8) (v : Byte) (h : r' ≠ r) : (s.setReg r v).getReg r' = s.getReg r' := by
  cases r <;> cases r' <;> first | rfl | exact absurd rfl h

/-! A general register is read through `getReg` or by its name. -/

@[simp] theorem State.getReg_a : s.getReg .a = s.a := rfl
@[simp] theorem State.getReg_b : s.getReg .b = s.b := rfl
@[simp] theorem State.getReg_c : s.getReg .c = s.c := rfl
@[simp] theorem State.getReg_d : s.getReg .d = s.d := rfl
@[simp] theorem State.getReg_e : s.getReg .e = s.e := rfl
@[simp] theorem State.getReg_h : s.getReg .h = s.h := rfl
@[simp] theorem State.getReg_l : s.getReg .l = s.l := rfl

/-! Words, their halves and the pairs (R11). -/

@[simp] theorem hiByte_mkWord (hi lo : Byte) : hiByte (mkWord hi lo) = hi := BitVec.extractLsb'_append_eq_left

@[simp] theorem loByte_mkWord (hi lo : Byte) : loByte (mkWord hi lo) = lo := BitVec.extractLsb'_append_eq_right

@[simp] theorem mkWord_hiByte_loByte (w : Word) : mkWord (hiByte w) (loByte w) = w := by
  simp only [hiByte, loByte, mkWord]
  ext i hi
  simp only [BitVec.getElem_append, BitVec.getElem_extractLsb']
  split
  · simp [BitVec.getLsbD_eq_getElem hi]
  · rename_i h
    rw [← BitVec.getLsbD_eq_getElem hi]
    congr 1
    omega

@[simp] theorem State.hl_setHl (v : Word) : (s.setHl v).hl = v := by
  simp [State.hl]

@[simp] theorem State.getReg16_setReg16_same (r : Reg16) (v : Word) : (s.setReg16 r v).getReg16 r = v := by
  cases r <;> simp [State.setReg16, State.getReg16, State.bc, State.de]

end Sys2Proof.Machine
end

