-- ==== Sys2Proof/Laws/Bus.lean ====
section
/-! SUPPORT. What the address decoder, a bus read, a bus write and the timer can do, said once. -/

namespace Sys2Proof.Machine

variable (s : State)

/-! ## The address decoder -/

/-- The window of the device registers holds no cell and no VRAM. -/
theorem ioTarget_no_cell (k : Nat) :
    (∀ c, ioTarget k ≠ .rom c) ∧ (∀ c, ioTarget k ≠ .ram c) ∧ ∀ o, ioTarget k ≠ .vram o := by
  unfold ioTarget
  split <;> try simp
  split <;> simp

/-- Below 0x8000 an address is its own ROM cell (R53). -/
theorem busTarget_rom {a : Word} (h : a.toNat < 0x8000) : busTarget a = .rom a.toNat := by
  unfold busTarget lowTarget
  rw [if_pos (by omega), if_pos h]

/-- A ROM target is below 0x8000. -/
theorem lt_of_busTarget_rom {a : Word} {cell : Nat} (h : busTarget a = .rom cell) : cell = a.toNat ∧ a.toNat < 0x8000 := by
  unfold busTarget lowTarget highTarget at h
  split_ifs at h with h1 h2
  · simp only [BusTarget.rom.injEq] at h
    exact ⟨h.symm, h2⟩
  · exact absurd h ((ioTarget_no_cell _).1 _)

/-- A RAM target is a cell the bus stores a byte for, and no ROM cell (R55 to R58, R65). -/
theorem storedCell_of_busTarget_ram {a : Word} {cell : Nat} (h : busTarget a = .ram cell) :
    storedCell cell = true ∧ 0x8000 ≤ cell := by
  have ha := a.isLt
  unfold busTarget lowTarget highTarget at h
  split_ifs at h
  all_goals first
    | exact absurd h ((ioTarget_no_cell _).2.1 _)
    | (simp only [BusTarget.ram.injEq] at h
       simp only [storedCell, Bool.or_eq_true, Bool.and_eq_true, decide_eq_true_eq]
       omega)

/-- The address decoder as the one table of R51 and R52, row by row. -/
theorem busTarget_eq (a : Word) : busTarget a =
  (let n := a.toNat
  if n ≤ 0x7FFF then .rom n
  else if n ≤ 0x9FFF then .vram (BitVec.ofNat 13 (n - 0x8000))
  else if n ≤ 0xDFFF then .ram n
  else if n ≤ 0xFDFF then .ram (n - 0x2000)
  else if n ≤ 0xFE9F then .ram n
  else if n ≤ 0xFEFF then .unmapped
  else if n = 0xFF01 then .sb
  else if n = 0xFF02 then .sc
  else if n = 0xFF04 then .div
  else if n = 0xFF05 then .tima
  else if n = 0xFF06 then .tma
  else if n = 0xFF07 then .tac
  else if n = 0xFF0F then .ifReg
  else if 0xFF40 ≤ n ∧ n ≤ 0xFF4B then .lcd
  else if n ≤ 0xFF7F then .unmapped
  else if n ≤ 0xFFFE then .ram n
  else .ie) := by
  have hlt := a.isLt
  simp only
  by_cases h0 : a.toNat < 0xFF00
  · rw [busTarget, if_pos h0, lowTarget]
    by_cases h1 : a.toNat < 32768
    · rw [if_pos h1, if_pos (show a.toNat ≤ 32767 by omega)]
    rw [if_neg h1, if_neg (show ¬ a.toNat ≤ 32767 by omega)]
    by_cases h1 : a.toNat < 40960
    · rw [if_pos h1, if_pos (show a.toNat ≤ 40959 by omega)]
    rw [if_neg h1, if_neg (show ¬ a.toNat ≤ 40959 by omega)]
    by_cases h1 : a.toNat < 57344
    · rw [if_pos h1, if_pos (show a.toNat ≤ 57343 by omega)]
    rw [if_neg h1, if_neg (show ¬ a.toNat ≤ 57343 by omega)]
    by_cases h1 : a.toNat < 65024
    · rw [if_pos h1, if_pos (show a.toNat ≤ 65023 by omega)]
    rw [if_neg h1, if_neg (show ¬ a.toNat ≤ 65023 by omega)]
    by_cases h1 : a.toNat < 65184
    · rw [if_pos h1, if_pos (show a.toNat ≤ 65183 by omega)]
    rw [if_neg h1, if_neg (show ¬ a.toNat ≤ 65183 by omega)]
    rw [if_pos (show a.toNat ≤ 0xFEFF by omega)]
  · rw [busTarget, if_neg h0, highTarget]
    rw [if_neg (show ¬ a.toNat ≤ 32767 by omega)]
    rw [if_neg (show ¬ a.toNat ≤ 40959 by omega)]
    rw [if_neg (show ¬ a.toNat ≤ 57343 by omega)]
    rw [if_neg (show ¬ a.toNat ≤ 65023 by omega)]
    rw [if_neg (show ¬ a.toNat ≤ 65183 by omega)]
    rw [if_neg (show ¬ a.toNat ≤ 65279 by omega)]
    by_cases h1 : a.toNat < 0xFF80
    · rw [if_pos h1]
      obtain ⟨k, hk⟩ : ∃ k, a.toNat = 0xFF00 + k := ⟨a.toNat - 0xFF00, by omega⟩
      rw [hk]
      have hk' : k < 0x80 := by omega
      clear hk h1 h0 hlt
      revert k
      decide
    · rw [if_neg h1]
      rw [if_neg (show ¬ a.toNat = 65281 by omega)]
      rw [if_neg (show ¬ a.toNat = 65282 by omega)]
      rw [if_neg (show ¬ a.toNat = 65284 by omega)]
      rw [if_neg (show ¬ a.toNat = 65285 by omega)]
      rw [if_neg (show ¬ a.toNat = 65286 by omega)]
      rw [if_neg (show ¬ a.toNat = 65287 by omega)]
      rw [if_neg (show ¬ a.toNat = 65295 by omega)]
      rw [if_neg (show ¬ (0xFF40 ≤ a.toNat ∧ a.toNat ≤ 0xFF4B) by omega), if_neg (show ¬ a.toNat ≤ 0xFF7F by omega)]
      by_cases h1 : a.toNat < 0xFFFF
      · rw [if_pos h1, if_pos (show a.toNat ≤ 0xFFFE by omega)]
      · rw [if_neg h1, if_neg (show ¬ a.toNat ≤ 0xFFFE by omega)]

/-- The address decoder as a case analysis (R51, R52): every address is in one row. -/
theorem busTarget_cases (a : Word) :
    (a.toNat ≤ 0x7FFF ∧ busTarget a = .rom a.toNat)
    ∨ ((0x8000 ≤ a.toNat ∧ a.toNat ≤ 0x9FFF) ∧ busTarget a = .vram (BitVec.ofNat 13 (a.toNat - 0x8000)))
    ∨ ((0xA000 ≤ a.toNat ∧ a.toNat ≤ 0xDFFF) ∧ busTarget a = .ram a.toNat)
    ∨ ((0xE000 ≤ a.toNat ∧ a.toNat ≤ 0xFDFF) ∧ busTarget a = .ram (a.toNat - 0x2000))
    ∨ ((0xFE00 ≤ a.toNat ∧ a.toNat ≤ 0xFE9F) ∧ busTarget a = .ram a.toNat)
    ∨ ((0xFEA0 ≤ a.toNat ∧ a.toNat ≤ 0xFEFF) ∧ busTarget a = .unmapped)
    ∨ (a = 0xFF01 ∧ busTarget a = .sb)
    ∨ (a = 0xFF02 ∧ busTarget a = .sc)
    ∨ (a = 0xFF04 ∧ busTarget a = .div)
    ∨ (a = 0xFF05 ∧ busTarget a = .tima)
    ∨ (a = 0xFF06 ∧ busTarget a = .tma)
    ∨ (a = 0xFF07 ∧ busTarget a = .tac)
    ∨ (a = 0xFF0F ∧ busTarget a = .ifReg)
    ∨ ((0xFF40 ≤ a.toNat ∧ a.toNat ≤ 0xFF4B) ∧ busTarget a = .lcd)
    ∨ ((0xFF00 ≤ a.toNat ∧ a.toNat ≤ 0xFF7F ∧ ¬ (0xFF40 ≤ a.toNat ∧ a.toNat ≤ 0xFF4B)
      ∧ a ≠ 0xFF01 ∧ a ≠ 0xFF02 ∧ a ≠ 0xFF04 ∧ a ≠ 0xFF05 ∧ a ≠ 0xFF06 ∧ a ≠ 0xFF07 ∧ a ≠ 0xFF0F) ∧ busTarget a = .unmapped)
    ∨ ((0xFF80 ≤ a.toNat ∧ a.toNat ≤ 0xFFFE) ∧ busTarget a = .ram a.toNat)
    ∨ (a = 0xFFFF ∧ busTarget a = .ie) := by
  have hlt := a.isLt
  have hn : ∀ k : Nat, k < 2 ^ 16 → (a = BitVec.ofNat 16 k ↔ a.toNat = k) := by
    intro k hk
    rw [← BitVec.toNat_inj, BitVec.toNat_ofNat, Nat.mod_eq_of_lt hk]
  have h := busTarget_eq a
  simp only at h
  by_cases hc : a.toNat ≤ 0x7FFF
  · rw [if_pos hc] at h
    exact .inl ⟨hc, h⟩
  rw [if_neg hc] at h
  have n0 := hc
  clear hc
  by_cases hc : a.toNat ≤ 0x9FFF
  · rw [if_pos hc] at h
    exact .inr (.inl ⟨⟨by omega, hc⟩, h⟩)
  rw [if_neg hc] at h
  have n1 := hc
  clear hc
  by_cases hc : a.toNat ≤ 0xDFFF
  · rw [if_pos hc] at h
    exact .inr (.inr (.inl ⟨⟨by omega, hc⟩, h⟩))
  rw [if_neg hc] at h
  have n2 := hc
  clear hc
  by_cases hc : a.toNat ≤ 0xFDFF
  · rw [if_pos hc] at h
    exact .inr (.inr (.inr (.inl ⟨⟨by omega, hc⟩, h⟩)))
  rw [if_neg hc] at h
  have n3 := hc
  clear hc
  by_cases hc : a.toNat ≤ 0xFE9F
  · rw [if_pos hc] at h
    exact .inr (.inr (.inr (.inr (.inl ⟨⟨by omega, hc⟩, h⟩))))
  rw [if_neg hc] at h
  have n4 := hc
  clear hc
  by_cases hc : a.toNat ≤ 0xFEFF
  · rw [if_pos hc] at h
    exact .inr (.inr (.inr (.inr (.inr (.inl ⟨⟨by omega, hc⟩, h⟩)))))
  rw [if_neg hc] at h
  have n5 := hc
  clear hc
  by_cases hc : a.toNat = 0xFF01
  · rw [if_pos hc] at h
    exact .inr (.inr (.inr (.inr (.inr (.inr (.inl ⟨(hn _ (by decide)).2 hc, h⟩))))))
  rw [if_neg hc] at h
  have n6 := hc
  clear hc
  by_cases hc : a.toNat = 0xFF02
  · rw [if_pos hc] at h
    exact .inr (.inr (.inr (.inr (.inr (.inr (.inr (.inl ⟨(hn _ (by decide)).2 hc, h⟩)))))))
  rw [if_neg hc] at h
  have n7 := hc
  clear hc
  by_cases hc : a.toNat = 0xFF04
  · rw [if_pos hc] at h
    exact .inr (.inr (.inr (.inr (.inr (.inr (.inr (.inr (.inl ⟨(hn _ (by decide)).2 hc, h⟩))))))))
  rw [if_neg hc] at h
  have n8 := hc
  clear hc
  by_cases hc : a.toNat = 0xFF05
  · rw [if_pos hc] at h
    exact .inr (.inr (.inr (.inr (.inr (.inr (.inr (.inr (.inr (.inl ⟨(hn _ (by decide)).2 hc, h⟩)))))))))
  rw [if_neg hc] at h
  have n9 := hc
  clear hc
  by_cases hc : a.toNat = 0xFF06
  · rw [if_pos hc] at h
    exact .inr (.inr (.inr (.inr (.inr (.inr (.inr (.inr (.inr (.inr (.inl ⟨(hn _ (by decide)).2 hc, h⟩))))))))))
  rw [if_neg hc] at h
  have n10 := hc
  clear hc
  by_cases hc : a.toNat = 0xFF07
  · rw [if_pos hc] at h
    exact .inr (.inr (.inr (.inr (.inr (.inr (.inr (.inr (.inr (.inr (.inr (.inl ⟨(hn _ (by decide)).2 hc, h⟩)))))))))))
  rw [if_neg hc] at h
  have n11 := hc
  clear hc
  by_cases hc : a.toNat = 0xFF0F
  · rw [if_pos hc] at h
    exact .inr (.inr (.inr (.inr (.inr (.inr (.inr (.inr (.inr (.inr (.inr (.inr (.inl ⟨(hn _ (by decide)).2 hc, h⟩))))))))))))
  rw [if_neg hc] at h
  have n12 := hc
  clear hc
  by_cases hc : 0xFF40 ≤ a.toNat ∧ a.toNat ≤ 0xFF4B
  · rw [if_pos hc] at h
    exact .inr (.inr (.inr (.inr (.inr (.inr (.inr (.inr (.inr (.inr (.inr (.inr (.inr (.inl ⟨hc, h⟩)))))))))))))
  rw [if_neg hc] at h
  have n13 := hc
  clear hc
  by_cases hc : a.toNat ≤ 0xFF7F
  · rw [if_pos hc] at h
    exact .inr (.inr (.inr (.inr (.inr (.inr (.inr (.inr (.inr (.inr (.inr (.inr (.inr (.inr (.inl ⟨⟨by omega, hc, by assumption, fun e => absurd ((hn _ (by decide)).1 e) (by assumption), fun e => absurd ((hn _ (by decide)).1 e) (by assumption), fun e => absurd ((hn _ (by decide)).1 e) (by assumption), fun e => absurd ((hn _ (by decide)).1 e) (by assumption), fun e => absurd ((hn _ (by decide)).1 e) (by assumption), fun e => absurd ((hn _ (by decide)).1 e) (by assumption), fun e => absurd ((hn _ (by decide)).1 e) (by assumption)⟩, h⟩))))))))))))))
  rw [if_neg hc] at h
  have n14 := hc
  clear hc
  by_cases hc : a.toNat ≤ 0xFFFE
  · rw [if_pos hc] at h
    exact .inr (.inr (.inr (.inr (.inr (.inr (.inr (.inr (.inr (.inr (.inr (.inr (.inr (.inr (.inr (.inl ⟨⟨by omega, hc⟩, h⟩)))))))))))))))
  rw [if_neg hc] at h
  have n15 := hc
  clear hc
  exact .inr (.inr (.inr (.inr (.inr (.inr (.inr (.inr (.inr (.inr (.inr (.inr (.inr (.inr (.inr (.inr ⟨(hn 0xFFFF (by decide)).2 (by omega), h⟩)))))))))))))))

/-! ## Reads -/

/-- A read changes the PPU collaborator's history and nothing else (R51). -/
theorem State.read_state (a : Word) : (s.read a).2 = { s with ppu := (s.read a).2.ppu } := by
  unfold State.read
  split <;> rfl

/-- A read that does not call the PPU collaborator changes nothing (R51). -/
theorem State.read_state_of_not_ppu {a : Word} (hv : ∀ o, busTarget a ≠ .vram o) (hl : busTarget a ≠ .lcd) :
    (s.read a).2 = s := by
  unfold State.read
  split <;> simp_all

/-- The history a read leaves. -/
theorem State.read_ppu (a : Word) : (s.read a).2.ppu =
    match busTarget a with
    | .vram o => ⟨s.clock, .readVram o⟩ :: s.ppu
    | .lcd => ⟨s.clock, .readRegister a⟩ :: s.ppu
    | _ => s.ppu := by
  unfold State.read
  split <;> simp_all

/-- Two byte reads change the PPU collaborator's history and nothing else. -/
theorem State.read16_state (a : Word) : (s.read16 a).2 = { s with ppu := (s.read16 a).2.ppu } := by
  unfold State.read16
  rw [State.read_state]
  simp only
  rw [State.read_state s a]

/-! ## Writes -/

/-- The timer's edge check writes `tima`, `reload` and `prev_bit` only (R342). -/
theorem State.edgeCheck_state : s.edgeCheck =
    { s with tima := s.edgeCheck.tima, reload := s.edgeCheck.reload, prevBit := s.selectedBit } := by
  unfold State.edgeCheck State.incrementTima
  simp only
  split
  · split <;> rfl
  · rfl

/-- After an edge check, `prev_bit` is the bit selected now. -/
@[simp] theorem State.edgeCheck_prevBit : s.edgeCheck.prevBit = s.edgeCheck.selectedBit := by
  rw [State.edgeCheck_state]
  rfl

/-- An edge check leaves the countdown in its range. -/
theorem State.edgeCheck_reload (h : reloadOk s.reload = true) : reloadOk s.edgeCheck.reload = true := by
  unfold State.edgeCheck State.incrementTima
  simp only
  split
  · split
    · rfl
    · exact h
  · exact h

/-- A bus write leaves every CPU register, every latch, the PPU clock and the parameters as they are: only memory, the devices
of the block and the PPU history can change (R52). -/
theorem State.write_state (a : Word) (v : Byte) : s.write a v =
    { s with
      mem := (s.write a v).mem, ppu := (s.write a v).ppu, sb := (s.write a v).sb, sc := (s.write a v).sc
      out := (s.write a v).out, ifBits := (s.write a v).ifBits, ie := (s.write a v).ie
      counter := (s.write a v).counter, tima := (s.write a v).tima, tma := (s.write a v).tma, tac := (s.write a v).tac
      prevBit := (s.write a v).prevBit, reload := (s.write a v).reload } := by
  unfold State.write
  split <;> try rfl
  · unfold State.writeSc
    simp only
    split
    · split <;> rfl
    · rfl
  · unfold State.writeDiv
    rw [State.edgeCheck_state]
  · unfold State.writeTac
    rw [State.edgeCheck_state]

/-- A write reaches memory only through a RAM cell (R52). -/
theorem State.write_mem (a : Word) (v : Byte) : (s.write a v).mem =
    match busTarget a with
    | .ram cell => s.mem.writeByte cell v
    | _ => s.mem := by
  unfold State.write
  split <;> simp_all
  · unfold State.writeSc
    simp only
    split
    · split <;> rfl
    · rfl
  · unfold State.writeDiv
    rw [State.edgeCheck_state]
  · unfold State.writeTac
    rw [State.edgeCheck_state]

/-- No write changes a byte of ROM (R53). -/
theorem State.write_rom (a : Word) (v : Byte) {k : Nat} (hk : k < 0x8000) :
    (s.write a v).mem.readByte k = s.mem.readByte k := by
  rw [State.write_mem]
  split
  · rename_i cell h
    have := (storedCell_of_busTarget_ram h).2
    exact Memory.readByte_writeByte_other _ _ (by omega)
  · rfl

/-! ## The timer's tick -/

/-- The reload part of a tick leaves the countdown in its range. -/
theorem State.reloadTick_reload (h : reloadOk s.reload = true) : reloadOk s.reloadTick.2.reload = true := by
  unfold State.reloadTick
  split
  · exact h
  · rename_i k hk
    rw [hk] at h
    split
    · rfl
    · simp only [reloadOk, Bool.and_eq_true, decide_eq_true_eq] at *
      omega

/-- The reload part of a tick writes `tima` and `reload` only (R340). -/
theorem State.reloadTick_state :
    s.reloadTick.2 = { s with tima := s.reloadTick.2.tima, reload := s.reloadTick.2.reload } := by
  unfold State.reloadTick
  split
  · rfl
  · split <;> rfl

/-- A tick writes the timer only: the counter moves by one, `prev_bit` is the bit selected now (R340). -/
theorem State.timerTick_state : s.timerTick.2 =
    { s with
      counter := s.counter + 1, tima := s.timerTick.2.tima, reload := s.timerTick.2.reload
      prevBit := s.timerTick.2.prevBit } := by
  unfold State.timerTick
  simp only
  rw [State.edgeCheck_state, State.reloadTick_state]

end Sys2Proof.Machine
end

