-- ==== Sys2Proof/Laws/Fields.lean ====
section
/-! SUPPORT. One lemma per field that an operation leaves as it was: a bus read, the immediates, the operand reads, Pop16, a
bus write, Push16, the timer's tick, the ticks after a step. -/

namespace Sys2Proof.Machine

variable (s : State)

/-! ## A bus read (R51) -/

@[simp] theorem State.read_a (a : Word) : (s.read a).2.a = s.a := by
  rw [State.read_state]

@[simp] theorem State.read_b (a : Word) : (s.read a).2.b = s.b := by
  rw [State.read_state]

@[simp] theorem State.read_c (a : Word) : (s.read a).2.c = s.c := by
  rw [State.read_state]

@[simp] theorem State.read_d (a : Word) : (s.read a).2.d = s.d := by
  rw [State.read_state]

@[simp] theorem State.read_e (a : Word) : (s.read a).2.e = s.e := by
  rw [State.read_state]

@[simp] theorem State.read_h (a : Word) : (s.read a).2.h = s.h := by
  rw [State.read_state]

@[simp] theorem State.read_l (a : Word) : (s.read a).2.l = s.l := by
  rw [State.read_state]

@[simp] theorem State.read_zf (a : Word) : (s.read a).2.zf = s.zf := by
  rw [State.read_state]

@[simp] theorem State.read_nf (a : Word) : (s.read a).2.nf = s.nf := by
  rw [State.read_state]

@[simp] theorem State.read_hf (a : Word) : (s.read a).2.hf = s.hf := by
  rw [State.read_state]

@[simp] theorem State.read_cf (a : Word) : (s.read a).2.cf = s.cf := by
  rw [State.read_state]

@[simp] theorem State.read_sp (a : Word) : (s.read a).2.sp = s.sp := by
  rw [State.read_state]

@[simp] theorem State.read_pc (a : Word) : (s.read a).2.pc = s.pc := by
  rw [State.read_state]

@[simp] theorem State.read_ime (a : Word) : (s.read a).2.ime = s.ime := by
  rw [State.read_state]

@[simp] theorem State.read_halted (a : Word) : (s.read a).2.halted = s.halted := by
  rw [State.read_state]

@[simp] theorem State.read_haltBug (a : Word) : (s.read a).2.haltBug = s.haltBug := by
  rw [State.read_state]

@[simp] theorem State.read_eiPending (a : Word) : (s.read a).2.eiPending = s.eiPending := by
  rw [State.read_state]

@[simp] theorem State.read_fatal (a : Word) : (s.read a).2.fatal = s.fatal := by
  rw [State.read_state]

@[simp] theorem State.read_ifBits (a : Word) : (s.read a).2.ifBits = s.ifBits := by
  rw [State.read_state]

@[simp] theorem State.read_ie (a : Word) : (s.read a).2.ie = s.ie := by
  rw [State.read_state]

@[simp] theorem State.read_counter (a : Word) : (s.read a).2.counter = s.counter := by
  rw [State.read_state]

@[simp] theorem State.read_tima (a : Word) : (s.read a).2.tima = s.tima := by
  rw [State.read_state]

@[simp] theorem State.read_tma (a : Word) : (s.read a).2.tma = s.tma := by
  rw [State.read_state]

@[simp] theorem State.read_tac (a : Word) : (s.read a).2.tac = s.tac := by
  rw [State.read_state]

@[simp] theorem State.read_prevBit (a : Word) : (s.read a).2.prevBit = s.prevBit := by
  rw [State.read_state]

@[simp] theorem State.read_reload (a : Word) : (s.read a).2.reload = s.reload := by
  rw [State.read_state]

@[simp] theorem State.read_sb (a : Word) : (s.read a).2.sb = s.sb := by
  rw [State.read_state]

@[simp] theorem State.read_sc (a : Word) : (s.read a).2.sc = s.sc := by
  rw [State.read_state]

@[simp] theorem State.read_out (a : Word) : (s.read a).2.out = s.out := by
  rw [State.read_state]

@[simp] theorem State.read_mem (a : Word) : (s.read a).2.mem = s.mem := by
  rw [State.read_state]

@[simp] theorem State.read_clock (a : Word) : (s.read a).2.clock = s.clock := by
  rw [State.read_state]

@[simp] theorem State.read_cycles (a : Word) : (s.read a).2.cycles = s.cycles := by
  rw [State.read_state]

@[simp] theorem State.read_host (a : Word) : (s.read a).2.host = s.host := by
  rw [State.read_state]

@[simp] theorem State.read_params (a : Word) : (s.read a).2.params = s.params := by
  rw [State.read_state]

/-! ## Two bus reads (R70) -/

@[simp] theorem State.read16_a (a : Word) : (s.read16 a).2.a = s.a := by
  rw [State.read16_state]

@[simp] theorem State.read16_b (a : Word) : (s.read16 a).2.b = s.b := by
  rw [State.read16_state]

@[simp] theorem State.read16_c (a : Word) : (s.read16 a).2.c = s.c := by
  rw [State.read16_state]

@[simp] theorem State.read16_d (a : Word) : (s.read16 a).2.d = s.d := by
  rw [State.read16_state]

@[simp] theorem State.read16_e (a : Word) : (s.read16 a).2.e = s.e := by
  rw [State.read16_state]

@[simp] theorem State.read16_h (a : Word) : (s.read16 a).2.h = s.h := by
  rw [State.read16_state]

@[simp] theorem State.read16_l (a : Word) : (s.read16 a).2.l = s.l := by
  rw [State.read16_state]

@[simp] theorem State.read16_zf (a : Word) : (s.read16 a).2.zf = s.zf := by
  rw [State.read16_state]

@[simp] theorem State.read16_nf (a : Word) : (s.read16 a).2.nf = s.nf := by
  rw [State.read16_state]

@[simp] theorem State.read16_hf (a : Word) : (s.read16 a).2.hf = s.hf := by
  rw [State.read16_state]

@[simp] theorem State.read16_cf (a : Word) : (s.read16 a).2.cf = s.cf := by
  rw [State.read16_state]

@[simp] theorem State.read16_sp (a : Word) : (s.read16 a).2.sp = s.sp := by
  rw [State.read16_state]

@[simp] theorem State.read16_pc (a : Word) : (s.read16 a).2.pc = s.pc := by
  rw [State.read16_state]

@[simp] theorem State.read16_ime (a : Word) : (s.read16 a).2.ime = s.ime := by
  rw [State.read16_state]

@[simp] theorem State.read16_halted (a : Word) : (s.read16 a).2.halted = s.halted := by
  rw [State.read16_state]

@[simp] theorem State.read16_haltBug (a : Word) : (s.read16 a).2.haltBug = s.haltBug := by
  rw [State.read16_state]

@[simp] theorem State.read16_eiPending (a : Word) : (s.read16 a).2.eiPending = s.eiPending := by
  rw [State.read16_state]

@[simp] theorem State.read16_fatal (a : Word) : (s.read16 a).2.fatal = s.fatal := by
  rw [State.read16_state]

@[simp] theorem State.read16_ifBits (a : Word) : (s.read16 a).2.ifBits = s.ifBits := by
  rw [State.read16_state]

@[simp] theorem State.read16_ie (a : Word) : (s.read16 a).2.ie = s.ie := by
  rw [State.read16_state]

@[simp] theorem State.read16_counter (a : Word) : (s.read16 a).2.counter = s.counter := by
  rw [State.read16_state]

@[simp] theorem State.read16_tima (a : Word) : (s.read16 a).2.tima = s.tima := by
  rw [State.read16_state]

@[simp] theorem State.read16_tma (a : Word) : (s.read16 a).2.tma = s.tma := by
  rw [State.read16_state]

@[simp] theorem State.read16_tac (a : Word) : (s.read16 a).2.tac = s.tac := by
  rw [State.read16_state]

@[simp] theorem State.read16_prevBit (a : Word) : (s.read16 a).2.prevBit = s.prevBit := by
  rw [State.read16_state]

@[simp] theorem State.read16_reload (a : Word) : (s.read16 a).2.reload = s.reload := by
  rw [State.read16_state]

@[simp] theorem State.read16_sb (a : Word) : (s.read16 a).2.sb = s.sb := by
  rw [State.read16_state]

@[simp] theorem State.read16_sc (a : Word) : (s.read16 a).2.sc = s.sc := by
  rw [State.read16_state]

@[simp] theorem State.read16_out (a : Word) : (s.read16 a).2.out = s.out := by
  rw [State.read16_state]

@[simp] theorem State.read16_mem (a : Word) : (s.read16 a).2.mem = s.mem := by
  rw [State.read16_state]

@[simp] theorem State.read16_clock (a : Word) : (s.read16 a).2.clock = s.clock := by
  rw [State.read16_state]

@[simp] theorem State.read16_cycles (a : Word) : (s.read16 a).2.cycles = s.cycles := by
  rw [State.read16_state]

@[simp] theorem State.read16_host (a : Word) : (s.read16 a).2.host = s.host := by
  rw [State.read16_state]

@[simp] theorem State.read16_params (a : Word) : (s.read16 a).2.params = s.params := by
  rw [State.read16_state]

/-! ## Reading d8 (R98) -/

@[simp] theorem State.imm8_a : s.imm8.2.a = s.a := by
  exact State.read_a s _

@[simp] theorem State.imm8_b : s.imm8.2.b = s.b := by
  exact State.read_b s _

@[simp] theorem State.imm8_c : s.imm8.2.c = s.c := by
  exact State.read_c s _

@[simp] theorem State.imm8_d : s.imm8.2.d = s.d := by
  exact State.read_d s _

@[simp] theorem State.imm8_e : s.imm8.2.e = s.e := by
  exact State.read_e s _

@[simp] theorem State.imm8_h : s.imm8.2.h = s.h := by
  exact State.read_h s _

@[simp] theorem State.imm8_l : s.imm8.2.l = s.l := by
  exact State.read_l s _

@[simp] theorem State.imm8_zf : s.imm8.2.zf = s.zf := by
  exact State.read_zf s _

@[simp] theorem State.imm8_nf : s.imm8.2.nf = s.nf := by
  exact State.read_nf s _

@[simp] theorem State.imm8_hf : s.imm8.2.hf = s.hf := by
  exact State.read_hf s _

@[simp] theorem State.imm8_cf : s.imm8.2.cf = s.cf := by
  exact State.read_cf s _

@[simp] theorem State.imm8_sp : s.imm8.2.sp = s.sp := by
  exact State.read_sp s _

@[simp] theorem State.imm8_pc : s.imm8.2.pc = s.pc := by
  exact State.read_pc s _

@[simp] theorem State.imm8_ime : s.imm8.2.ime = s.ime := by
  exact State.read_ime s _

@[simp] theorem State.imm8_halted : s.imm8.2.halted = s.halted := by
  exact State.read_halted s _

@[simp] theorem State.imm8_haltBug : s.imm8.2.haltBug = s.haltBug := by
  exact State.read_haltBug s _

@[simp] theorem State.imm8_eiPending : s.imm8.2.eiPending = s.eiPending := by
  exact State.read_eiPending s _

@[simp] theorem State.imm8_fatal : s.imm8.2.fatal = s.fatal := by
  exact State.read_fatal s _

@[simp] theorem State.imm8_ifBits : s.imm8.2.ifBits = s.ifBits := by
  exact State.read_ifBits s _

@[simp] theorem State.imm8_ie : s.imm8.2.ie = s.ie := by
  exact State.read_ie s _

@[simp] theorem State.imm8_counter : s.imm8.2.counter = s.counter := by
  exact State.read_counter s _

@[simp] theorem State.imm8_tima : s.imm8.2.tima = s.tima := by
  exact State.read_tima s _

@[simp] theorem State.imm8_tma : s.imm8.2.tma = s.tma := by
  exact State.read_tma s _

@[simp] theorem State.imm8_tac : s.imm8.2.tac = s.tac := by
  exact State.read_tac s _

@[simp] theorem State.imm8_prevBit : s.imm8.2.prevBit = s.prevBit := by
  exact State.read_prevBit s _

@[simp] theorem State.imm8_reload : s.imm8.2.reload = s.reload := by
  exact State.read_reload s _

@[simp] theorem State.imm8_sb : s.imm8.2.sb = s.sb := by
  exact State.read_sb s _

@[simp] theorem State.imm8_sc : s.imm8.2.sc = s.sc := by
  exact State.read_sc s _

@[simp] theorem State.imm8_out : s.imm8.2.out = s.out := by
  exact State.read_out s _

@[simp] theorem State.imm8_mem : s.imm8.2.mem = s.mem := by
  exact State.read_mem s _

@[simp] theorem State.imm8_clock : s.imm8.2.clock = s.clock := by
  exact State.read_clock s _

@[simp] theorem State.imm8_cycles : s.imm8.2.cycles = s.cycles := by
  exact State.read_cycles s _

@[simp] theorem State.imm8_host : s.imm8.2.host = s.host := by
  exact State.read_host s _

@[simp] theorem State.imm8_params : s.imm8.2.params = s.params := by
  exact State.read_params s _

/-! ## Reading d16 (R98) -/

@[simp] theorem State.imm16_a : s.imm16.2.a = s.a := by
  exact State.read16_a s _

@[simp] theorem State.imm16_b : s.imm16.2.b = s.b := by
  exact State.read16_b s _

@[simp] theorem State.imm16_c : s.imm16.2.c = s.c := by
  exact State.read16_c s _

@[simp] theorem State.imm16_d : s.imm16.2.d = s.d := by
  exact State.read16_d s _

@[simp] theorem State.imm16_e : s.imm16.2.e = s.e := by
  exact State.read16_e s _

@[simp] theorem State.imm16_h : s.imm16.2.h = s.h := by
  exact State.read16_h s _

@[simp] theorem State.imm16_l : s.imm16.2.l = s.l := by
  exact State.read16_l s _

@[simp] theorem State.imm16_zf : s.imm16.2.zf = s.zf := by
  exact State.read16_zf s _

@[simp] theorem State.imm16_nf : s.imm16.2.nf = s.nf := by
  exact State.read16_nf s _

@[simp] theorem State.imm16_hf : s.imm16.2.hf = s.hf := by
  exact State.read16_hf s _

@[simp] theorem State.imm16_cf : s.imm16.2.cf = s.cf := by
  exact State.read16_cf s _

@[simp] theorem State.imm16_sp : s.imm16.2.sp = s.sp := by
  exact State.read16_sp s _

@[simp] theorem State.imm16_pc : s.imm16.2.pc = s.pc := by
  exact State.read16_pc s _

@[simp] theorem State.imm16_ime : s.imm16.2.ime = s.ime := by
  exact State.read16_ime s _

@[simp] theorem State.imm16_halted : s.imm16.2.halted = s.halted := by
  exact State.read16_halted s _

@[simp] theorem State.imm16_haltBug : s.imm16.2.haltBug = s.haltBug := by
  exact State.read16_haltBug s _

@[simp] theorem State.imm16_eiPending : s.imm16.2.eiPending = s.eiPending := by
  exact State.read16_eiPending s _

@[simp] theorem State.imm16_fatal : s.imm16.2.fatal = s.fatal := by
  exact State.read16_fatal s _

@[simp] theorem State.imm16_ifBits : s.imm16.2.ifBits = s.ifBits := by
  exact State.read16_ifBits s _

@[simp] theorem State.imm16_ie : s.imm16.2.ie = s.ie := by
  exact State.read16_ie s _

@[simp] theorem State.imm16_counter : s.imm16.2.counter = s.counter := by
  exact State.read16_counter s _

@[simp] theorem State.imm16_tima : s.imm16.2.tima = s.tima := by
  exact State.read16_tima s _

@[simp] theorem State.imm16_tma : s.imm16.2.tma = s.tma := by
  exact State.read16_tma s _

@[simp] theorem State.imm16_tac : s.imm16.2.tac = s.tac := by
  exact State.read16_tac s _

@[simp] theorem State.imm16_prevBit : s.imm16.2.prevBit = s.prevBit := by
  exact State.read16_prevBit s _

@[simp] theorem State.imm16_reload : s.imm16.2.reload = s.reload := by
  exact State.read16_reload s _

@[simp] theorem State.imm16_sb : s.imm16.2.sb = s.sb := by
  exact State.read16_sb s _

@[simp] theorem State.imm16_sc : s.imm16.2.sc = s.sc := by
  exact State.read16_sc s _

@[simp] theorem State.imm16_out : s.imm16.2.out = s.out := by
  exact State.read16_out s _

@[simp] theorem State.imm16_mem : s.imm16.2.mem = s.mem := by
  exact State.read16_mem s _

@[simp] theorem State.imm16_clock : s.imm16.2.clock = s.clock := by
  exact State.read16_clock s _

@[simp] theorem State.imm16_cycles : s.imm16.2.cycles = s.cycles := by
  exact State.read16_cycles s _

@[simp] theorem State.imm16_host : s.imm16.2.host = s.host := by
  exact State.read16_host s _

@[simp] theorem State.imm16_params : s.imm16.2.params = s.params := by
  exact State.read16_params s _

/-! ## Reading `x[i]` (R95) -/

@[simp] theorem State.readOpnd_a (x : Opnd) : (s.readOpnd x).2.a = s.a := by
  cases x <;> simp [State.readOpnd]

@[simp] theorem State.readOpnd_b (x : Opnd) : (s.readOpnd x).2.b = s.b := by
  cases x <;> simp [State.readOpnd]

@[simp] theorem State.readOpnd_c (x : Opnd) : (s.readOpnd x).2.c = s.c := by
  cases x <;> simp [State.readOpnd]

@[simp] theorem State.readOpnd_d (x : Opnd) : (s.readOpnd x).2.d = s.d := by
  cases x <;> simp [State.readOpnd]

@[simp] theorem State.readOpnd_e (x : Opnd) : (s.readOpnd x).2.e = s.e := by
  cases x <;> simp [State.readOpnd]

@[simp] theorem State.readOpnd_h (x : Opnd) : (s.readOpnd x).2.h = s.h := by
  cases x <;> simp [State.readOpnd]

@[simp] theorem State.readOpnd_l (x : Opnd) : (s.readOpnd x).2.l = s.l := by
  cases x <;> simp [State.readOpnd]

@[simp] theorem State.readOpnd_zf (x : Opnd) : (s.readOpnd x).2.zf = s.zf := by
  cases x <;> simp [State.readOpnd]

@[simp] theorem State.readOpnd_nf (x : Opnd) : (s.readOpnd x).2.nf = s.nf := by
  cases x <;> simp [State.readOpnd]

@[simp] theorem State.readOpnd_hf (x : Opnd) : (s.readOpnd x).2.hf = s.hf := by
  cases x <;> simp [State.readOpnd]

@[simp] theorem State.readOpnd_cf (x : Opnd) : (s.readOpnd x).2.cf = s.cf := by
  cases x <;> simp [State.readOpnd]

@[simp] theorem State.readOpnd_sp (x : Opnd) : (s.readOpnd x).2.sp = s.sp := by
  cases x <;> simp [State.readOpnd]

@[simp] theorem State.readOpnd_pc (x : Opnd) : (s.readOpnd x).2.pc = s.pc := by
  cases x <;> simp [State.readOpnd]

@[simp] theorem State.readOpnd_ime (x : Opnd) : (s.readOpnd x).2.ime = s.ime := by
  cases x <;> simp [State.readOpnd]

@[simp] theorem State.readOpnd_halted (x : Opnd) : (s.readOpnd x).2.halted = s.halted := by
  cases x <;> simp [State.readOpnd]

@[simp] theorem State.readOpnd_haltBug (x : Opnd) : (s.readOpnd x).2.haltBug = s.haltBug := by
  cases x <;> simp [State.readOpnd]

@[simp] theorem State.readOpnd_eiPending (x : Opnd) : (s.readOpnd x).2.eiPending = s.eiPending := by
  cases x <;> simp [State.readOpnd]

@[simp] theorem State.readOpnd_fatal (x : Opnd) : (s.readOpnd x).2.fatal = s.fatal := by
  cases x <;> simp [State.readOpnd]

@[simp] theorem State.readOpnd_ifBits (x : Opnd) : (s.readOpnd x).2.ifBits = s.ifBits := by
  cases x <;> simp [State.readOpnd]

@[simp] theorem State.readOpnd_ie (x : Opnd) : (s.readOpnd x).2.ie = s.ie := by
  cases x <;> simp [State.readOpnd]

@[simp] theorem State.readOpnd_counter (x : Opnd) : (s.readOpnd x).2.counter = s.counter := by
  cases x <;> simp [State.readOpnd]

@[simp] theorem State.readOpnd_tima (x : Opnd) : (s.readOpnd x).2.tima = s.tima := by
  cases x <;> simp [State.readOpnd]

@[simp] theorem State.readOpnd_tma (x : Opnd) : (s.readOpnd x).2.tma = s.tma := by
  cases x <;> simp [State.readOpnd]

@[simp] theorem State.readOpnd_tac (x : Opnd) : (s.readOpnd x).2.tac = s.tac := by
  cases x <;> simp [State.readOpnd]

@[simp] theorem State.readOpnd_prevBit (x : Opnd) : (s.readOpnd x).2.prevBit = s.prevBit := by
  cases x <;> simp [State.readOpnd]

@[simp] theorem State.readOpnd_reload (x : Opnd) : (s.readOpnd x).2.reload = s.reload := by
  cases x <;> simp [State.readOpnd]

@[simp] theorem State.readOpnd_sb (x : Opnd) : (s.readOpnd x).2.sb = s.sb := by
  cases x <;> simp [State.readOpnd]

@[simp] theorem State.readOpnd_sc (x : Opnd) : (s.readOpnd x).2.sc = s.sc := by
  cases x <;> simp [State.readOpnd]

@[simp] theorem State.readOpnd_out (x : Opnd) : (s.readOpnd x).2.out = s.out := by
  cases x <;> simp [State.readOpnd]

@[simp] theorem State.readOpnd_mem (x : Opnd) : (s.readOpnd x).2.mem = s.mem := by
  cases x <;> simp [State.readOpnd]

@[simp] theorem State.readOpnd_clock (x : Opnd) : (s.readOpnd x).2.clock = s.clock := by
  cases x <;> simp [State.readOpnd]

@[simp] theorem State.readOpnd_cycles (x : Opnd) : (s.readOpnd x).2.cycles = s.cycles := by
  cases x <;> simp [State.readOpnd]

@[simp] theorem State.readOpnd_host (x : Opnd) : (s.readOpnd x).2.host = s.host := by
  cases x <;> simp [State.readOpnd]

@[simp] theorem State.readOpnd_params (x : Opnd) : (s.readOpnd x).2.params = s.params := by
  cases x <;> simp [State.readOpnd]

/-! ## Reading an accumulator operand (R95, R98) -/

@[simp] theorem State.readSrc_a (x : Src8) : (s.readSrc x).2.a = s.a := by
  cases x <;> simp [State.readSrc]

@[simp] theorem State.readSrc_b (x : Src8) : (s.readSrc x).2.b = s.b := by
  cases x <;> simp [State.readSrc]

@[simp] theorem State.readSrc_c (x : Src8) : (s.readSrc x).2.c = s.c := by
  cases x <;> simp [State.readSrc]

@[simp] theorem State.readSrc_d (x : Src8) : (s.readSrc x).2.d = s.d := by
  cases x <;> simp [State.readSrc]

@[simp] theorem State.readSrc_e (x : Src8) : (s.readSrc x).2.e = s.e := by
  cases x <;> simp [State.readSrc]

@[simp] theorem State.readSrc_h (x : Src8) : (s.readSrc x).2.h = s.h := by
  cases x <;> simp [State.readSrc]

@[simp] theorem State.readSrc_l (x : Src8) : (s.readSrc x).2.l = s.l := by
  cases x <;> simp [State.readSrc]

@[simp] theorem State.readSrc_zf (x : Src8) : (s.readSrc x).2.zf = s.zf := by
  cases x <;> simp [State.readSrc]

@[simp] theorem State.readSrc_nf (x : Src8) : (s.readSrc x).2.nf = s.nf := by
  cases x <;> simp [State.readSrc]

@[simp] theorem State.readSrc_hf (x : Src8) : (s.readSrc x).2.hf = s.hf := by
  cases x <;> simp [State.readSrc]

@[simp] theorem State.readSrc_cf (x : Src8) : (s.readSrc x).2.cf = s.cf := by
  cases x <;> simp [State.readSrc]

@[simp] theorem State.readSrc_sp (x : Src8) : (s.readSrc x).2.sp = s.sp := by
  cases x <;> simp [State.readSrc]

@[simp] theorem State.readSrc_pc (x : Src8) : (s.readSrc x).2.pc = s.pc := by
  cases x <;> simp [State.readSrc]

@[simp] theorem State.readSrc_ime (x : Src8) : (s.readSrc x).2.ime = s.ime := by
  cases x <;> simp [State.readSrc]

@[simp] theorem State.readSrc_halted (x : Src8) : (s.readSrc x).2.halted = s.halted := by
  cases x <;> simp [State.readSrc]

@[simp] theorem State.readSrc_haltBug (x : Src8) : (s.readSrc x).2.haltBug = s.haltBug := by
  cases x <;> simp [State.readSrc]

@[simp] theorem State.readSrc_eiPending (x : Src8) : (s.readSrc x).2.eiPending = s.eiPending := by
  cases x <;> simp [State.readSrc]

@[simp] theorem State.readSrc_fatal (x : Src8) : (s.readSrc x).2.fatal = s.fatal := by
  cases x <;> simp [State.readSrc]

@[simp] theorem State.readSrc_ifBits (x : Src8) : (s.readSrc x).2.ifBits = s.ifBits := by
  cases x <;> simp [State.readSrc]

@[simp] theorem State.readSrc_ie (x : Src8) : (s.readSrc x).2.ie = s.ie := by
  cases x <;> simp [State.readSrc]

@[simp] theorem State.readSrc_counter (x : Src8) : (s.readSrc x).2.counter = s.counter := by
  cases x <;> simp [State.readSrc]

@[simp] theorem State.readSrc_tima (x : Src8) : (s.readSrc x).2.tima = s.tima := by
  cases x <;> simp [State.readSrc]

@[simp] theorem State.readSrc_tma (x : Src8) : (s.readSrc x).2.tma = s.tma := by
  cases x <;> simp [State.readSrc]

@[simp] theorem State.readSrc_tac (x : Src8) : (s.readSrc x).2.tac = s.tac := by
  cases x <;> simp [State.readSrc]

@[simp] theorem State.readSrc_prevBit (x : Src8) : (s.readSrc x).2.prevBit = s.prevBit := by
  cases x <;> simp [State.readSrc]

@[simp] theorem State.readSrc_reload (x : Src8) : (s.readSrc x).2.reload = s.reload := by
  cases x <;> simp [State.readSrc]

@[simp] theorem State.readSrc_sb (x : Src8) : (s.readSrc x).2.sb = s.sb := by
  cases x <;> simp [State.readSrc]

@[simp] theorem State.readSrc_sc (x : Src8) : (s.readSrc x).2.sc = s.sc := by
  cases x <;> simp [State.readSrc]

@[simp] theorem State.readSrc_out (x : Src8) : (s.readSrc x).2.out = s.out := by
  cases x <;> simp [State.readSrc]

@[simp] theorem State.readSrc_mem (x : Src8) : (s.readSrc x).2.mem = s.mem := by
  cases x <;> simp [State.readSrc]

@[simp] theorem State.readSrc_clock (x : Src8) : (s.readSrc x).2.clock = s.clock := by
  cases x <;> simp [State.readSrc]

@[simp] theorem State.readSrc_cycles (x : Src8) : (s.readSrc x).2.cycles = s.cycles := by
  cases x <;> simp [State.readSrc]

@[simp] theorem State.readSrc_host (x : Src8) : (s.readSrc x).2.host = s.host := by
  cases x <;> simp [State.readSrc]

@[simp] theorem State.readSrc_params (x : Src8) : (s.readSrc x).2.params = s.params := by
  cases x <;> simp [State.readSrc]

/-! ## `Pop16()` (R151) -/

@[simp] theorem State.pop16_a : s.pop16.2.a = s.a := by
  simp [State.pop16]

@[simp] theorem State.pop16_b : s.pop16.2.b = s.b := by
  simp [State.pop16]

@[simp] theorem State.pop16_c : s.pop16.2.c = s.c := by
  simp [State.pop16]

@[simp] theorem State.pop16_d : s.pop16.2.d = s.d := by
  simp [State.pop16]

@[simp] theorem State.pop16_e : s.pop16.2.e = s.e := by
  simp [State.pop16]

@[simp] theorem State.pop16_h : s.pop16.2.h = s.h := by
  simp [State.pop16]

@[simp] theorem State.pop16_l : s.pop16.2.l = s.l := by
  simp [State.pop16]

@[simp] theorem State.pop16_zf : s.pop16.2.zf = s.zf := by
  simp [State.pop16]

@[simp] theorem State.pop16_nf : s.pop16.2.nf = s.nf := by
  simp [State.pop16]

@[simp] theorem State.pop16_hf : s.pop16.2.hf = s.hf := by
  simp [State.pop16]

@[simp] theorem State.pop16_cf : s.pop16.2.cf = s.cf := by
  simp [State.pop16]

@[simp] theorem State.pop16_pc : s.pop16.2.pc = s.pc := by
  simp [State.pop16]

@[simp] theorem State.pop16_ime : s.pop16.2.ime = s.ime := by
  simp [State.pop16]

@[simp] theorem State.pop16_halted : s.pop16.2.halted = s.halted := by
  simp [State.pop16]

@[simp] theorem State.pop16_haltBug : s.pop16.2.haltBug = s.haltBug := by
  simp [State.pop16]

@[simp] theorem State.pop16_eiPending : s.pop16.2.eiPending = s.eiPending := by
  simp [State.pop16]

@[simp] theorem State.pop16_fatal : s.pop16.2.fatal = s.fatal := by
  simp [State.pop16]

@[simp] theorem State.pop16_ifBits : s.pop16.2.ifBits = s.ifBits := by
  simp [State.pop16]

@[simp] theorem State.pop16_ie : s.pop16.2.ie = s.ie := by
  simp [State.pop16]

@[simp] theorem State.pop16_counter : s.pop16.2.counter = s.counter := by
  simp [State.pop16]

@[simp] theorem State.pop16_tima : s.pop16.2.tima = s.tima := by
  simp [State.pop16]

@[simp] theorem State.pop16_tma : s.pop16.2.tma = s.tma := by
  simp [State.pop16]

@[simp] theorem State.pop16_tac : s.pop16.2.tac = s.tac := by
  simp [State.pop16]

@[simp] theorem State.pop16_prevBit : s.pop16.2.prevBit = s.prevBit := by
  simp [State.pop16]

@[simp] theorem State.pop16_reload : s.pop16.2.reload = s.reload := by
  simp [State.pop16]

@[simp] theorem State.pop16_sb : s.pop16.2.sb = s.sb := by
  simp [State.pop16]

@[simp] theorem State.pop16_sc : s.pop16.2.sc = s.sc := by
  simp [State.pop16]

@[simp] theorem State.pop16_out : s.pop16.2.out = s.out := by
  simp [State.pop16]

@[simp] theorem State.pop16_mem : s.pop16.2.mem = s.mem := by
  simp [State.pop16]

@[simp] theorem State.pop16_clock : s.pop16.2.clock = s.clock := by
  simp [State.pop16]

@[simp] theorem State.pop16_cycles : s.pop16.2.cycles = s.cycles := by
  simp [State.pop16]

@[simp] theorem State.pop16_host : s.pop16.2.host = s.host := by
  simp [State.pop16]

@[simp] theorem State.pop16_params : s.pop16.2.params = s.params := by
  simp [State.pop16]

/-- `Pop16()` leaves SP two higher (R151). -/
@[simp] theorem State.pop16_sp : s.pop16.2.sp = s.sp + 2 := by
  simp only [State.pop16, State.read_sp, BitVec.add_assoc]
  rfl

/-! ## A bus write (R52) -/

@[simp] theorem State.write_a (a : Word) (v : Byte) : (s.write a v).a = s.a := by
  rw [State.write_state]

@[simp] theorem State.write_b (a : Word) (v : Byte) : (s.write a v).b = s.b := by
  rw [State.write_state]

@[simp] theorem State.write_c (a : Word) (v : Byte) : (s.write a v).c = s.c := by
  rw [State.write_state]

@[simp] theorem State.write_d (a : Word) (v : Byte) : (s.write a v).d = s.d := by
  rw [State.write_state]

@[simp] theorem State.write_e (a : Word) (v : Byte) : (s.write a v).e = s.e := by
  rw [State.write_state]

@[simp] theorem State.write_h (a : Word) (v : Byte) : (s.write a v).h = s.h := by
  rw [State.write_state]

@[simp] theorem State.write_l (a : Word) (v : Byte) : (s.write a v).l = s.l := by
  rw [State.write_state]

@[simp] theorem State.write_zf (a : Word) (v : Byte) : (s.write a v).zf = s.zf := by
  rw [State.write_state]

@[simp] theorem State.write_nf (a : Word) (v : Byte) : (s.write a v).nf = s.nf := by
  rw [State.write_state]

@[simp] theorem State.write_hf (a : Word) (v : Byte) : (s.write a v).hf = s.hf := by
  rw [State.write_state]

@[simp] theorem State.write_cf (a : Word) (v : Byte) : (s.write a v).cf = s.cf := by
  rw [State.write_state]

@[simp] theorem State.write_sp (a : Word) (v : Byte) : (s.write a v).sp = s.sp := by
  rw [State.write_state]

@[simp] theorem State.write_pc (a : Word) (v : Byte) : (s.write a v).pc = s.pc := by
  rw [State.write_state]

@[simp] theorem State.write_ime (a : Word) (v : Byte) : (s.write a v).ime = s.ime := by
  rw [State.write_state]

@[simp] theorem State.write_halted (a : Word) (v : Byte) : (s.write a v).halted = s.halted := by
  rw [State.write_state]

@[simp] theorem State.write_haltBug (a : Word) (v : Byte) : (s.write a v).haltBug = s.haltBug := by
  rw [State.write_state]

@[simp] theorem State.write_eiPending (a : Word) (v : Byte) : (s.write a v).eiPending = s.eiPending := by
  rw [State.write_state]

@[simp] theorem State.write_fatal (a : Word) (v : Byte) : (s.write a v).fatal = s.fatal := by
  rw [State.write_state]

@[simp] theorem State.write_clock (a : Word) (v : Byte) : (s.write a v).clock = s.clock := by
  rw [State.write_state]

@[simp] theorem State.write_cycles (a : Word) (v : Byte) : (s.write a v).cycles = s.cycles := by
  rw [State.write_state]

@[simp] theorem State.write_host (a : Word) (v : Byte) : (s.write a v).host = s.host := by
  rw [State.write_state]

@[simp] theorem State.write_params (a : Word) (v : Byte) : (s.write a v).params = s.params := by
  rw [State.write_state]

/-! ## Two bus writes (R70) -/

@[simp] theorem State.write16_a (a : Word) (v : Word) : (s.write16 a v).a = s.a := by
  simp [State.write16]

@[simp] theorem State.write16_b (a : Word) (v : Word) : (s.write16 a v).b = s.b := by
  simp [State.write16]

@[simp] theorem State.write16_c (a : Word) (v : Word) : (s.write16 a v).c = s.c := by
  simp [State.write16]

@[simp] theorem State.write16_d (a : Word) (v : Word) : (s.write16 a v).d = s.d := by
  simp [State.write16]

@[simp] theorem State.write16_e (a : Word) (v : Word) : (s.write16 a v).e = s.e := by
  simp [State.write16]

@[simp] theorem State.write16_h (a : Word) (v : Word) : (s.write16 a v).h = s.h := by
  simp [State.write16]

@[simp] theorem State.write16_l (a : Word) (v : Word) : (s.write16 a v).l = s.l := by
  simp [State.write16]

@[simp] theorem State.write16_zf (a : Word) (v : Word) : (s.write16 a v).zf = s.zf := by
  simp [State.write16]

@[simp] theorem State.write16_nf (a : Word) (v : Word) : (s.write16 a v).nf = s.nf := by
  simp [State.write16]

@[simp] theorem State.write16_hf (a : Word) (v : Word) : (s.write16 a v).hf = s.hf := by
  simp [State.write16]

@[simp] theorem State.write16_cf (a : Word) (v : Word) : (s.write16 a v).cf = s.cf := by
  simp [State.write16]

@[simp] theorem State.write16_sp (a : Word) (v : Word) : (s.write16 a v).sp = s.sp := by
  simp [State.write16]

@[simp] theorem State.write16_pc (a : Word) (v : Word) : (s.write16 a v).pc = s.pc := by
  simp [State.write16]

@[simp] theorem State.write16_ime (a : Word) (v : Word) : (s.write16 a v).ime = s.ime := by
  simp [State.write16]

@[simp] theorem State.write16_halted (a : Word) (v : Word) : (s.write16 a v).halted = s.halted := by
  simp [State.write16]

@[simp] theorem State.write16_haltBug (a : Word) (v : Word) : (s.write16 a v).haltBug = s.haltBug := by
  simp [State.write16]

@[simp] theorem State.write16_eiPending (a : Word) (v : Word) : (s.write16 a v).eiPending = s.eiPending := by
  simp [State.write16]

@[simp] theorem State.write16_fatal (a : Word) (v : Word) : (s.write16 a v).fatal = s.fatal := by
  simp [State.write16]

@[simp] theorem State.write16_clock (a : Word) (v : Word) : (s.write16 a v).clock = s.clock := by
  simp [State.write16]

@[simp] theorem State.write16_cycles (a : Word) (v : Word) : (s.write16 a v).cycles = s.cycles := by
  simp [State.write16]

@[simp] theorem State.write16_host (a : Word) (v : Word) : (s.write16 a v).host = s.host := by
  simp [State.write16]

@[simp] theorem State.write16_params (a : Word) (v : Word) : (s.write16 a v).params = s.params := by
  simp [State.write16]

/-! ## `Push16(v)` (R150) -/

@[simp] theorem State.push16_a (v : Word) : (s.push16 v).a = s.a := by
  simp [State.push16]

@[simp] theorem State.push16_b (v : Word) : (s.push16 v).b = s.b := by
  simp [State.push16]

@[simp] theorem State.push16_c (v : Word) : (s.push16 v).c = s.c := by
  simp [State.push16]

@[simp] theorem State.push16_d (v : Word) : (s.push16 v).d = s.d := by
  simp [State.push16]

@[simp] theorem State.push16_e (v : Word) : (s.push16 v).e = s.e := by
  simp [State.push16]

@[simp] theorem State.push16_h (v : Word) : (s.push16 v).h = s.h := by
  simp [State.push16]

@[simp] theorem State.push16_l (v : Word) : (s.push16 v).l = s.l := by
  simp [State.push16]

@[simp] theorem State.push16_zf (v : Word) : (s.push16 v).zf = s.zf := by
  simp [State.push16]

@[simp] theorem State.push16_nf (v : Word) : (s.push16 v).nf = s.nf := by
  simp [State.push16]

@[simp] theorem State.push16_hf (v : Word) : (s.push16 v).hf = s.hf := by
  simp [State.push16]

@[simp] theorem State.push16_cf (v : Word) : (s.push16 v).cf = s.cf := by
  simp [State.push16]

@[simp] theorem State.push16_pc (v : Word) : (s.push16 v).pc = s.pc := by
  simp [State.push16]

@[simp] theorem State.push16_ime (v : Word) : (s.push16 v).ime = s.ime := by
  simp [State.push16]

@[simp] theorem State.push16_halted (v : Word) : (s.push16 v).halted = s.halted := by
  simp [State.push16]

@[simp] theorem State.push16_haltBug (v : Word) : (s.push16 v).haltBug = s.haltBug := by
  simp [State.push16]

@[simp] theorem State.push16_eiPending (v : Word) : (s.push16 v).eiPending = s.eiPending := by
  simp [State.push16]

@[simp] theorem State.push16_fatal (v : Word) : (s.push16 v).fatal = s.fatal := by
  simp [State.push16]

@[simp] theorem State.push16_clock (v : Word) : (s.push16 v).clock = s.clock := by
  simp [State.push16]

@[simp] theorem State.push16_cycles (v : Word) : (s.push16 v).cycles = s.cycles := by
  simp [State.push16]

@[simp] theorem State.push16_host (v : Word) : (s.push16 v).host = s.host := by
  simp [State.push16]

@[simp] theorem State.push16_params (v : Word) : (s.push16 v).params = s.params := by
  simp [State.push16]

/-- `Push16(v)` leaves SP two lower (R150). -/
@[simp] theorem State.push16_sp (v : Word) : (s.push16 v).sp = s.sp - 2 := by
  simp only [State.push16, State.write_sp]
  bv_omega

/-! ## A tick of the timer (R340) -/

@[simp] theorem State.timerTick_a : s.timerTick.2.a = s.a := by
  rw [State.timerTick_state]

@[simp] theorem State.timerTick_b : s.timerTick.2.b = s.b := by
  rw [State.timerTick_state]

@[simp] theorem State.timerTick_c : s.timerTick.2.c = s.c := by
  rw [State.timerTick_state]

@[simp] theorem State.timerTick_d : s.timerTick.2.d = s.d := by
  rw [State.timerTick_state]

@[simp] theorem State.timerTick_e : s.timerTick.2.e = s.e := by
  rw [State.timerTick_state]

@[simp] theorem State.timerTick_h : s.timerTick.2.h = s.h := by
  rw [State.timerTick_state]

@[simp] theorem State.timerTick_l : s.timerTick.2.l = s.l := by
  rw [State.timerTick_state]

@[simp] theorem State.timerTick_zf : s.timerTick.2.zf = s.zf := by
  rw [State.timerTick_state]

@[simp] theorem State.timerTick_nf : s.timerTick.2.nf = s.nf := by
  rw [State.timerTick_state]

@[simp] theorem State.timerTick_hf : s.timerTick.2.hf = s.hf := by
  rw [State.timerTick_state]

@[simp] theorem State.timerTick_cf : s.timerTick.2.cf = s.cf := by
  rw [State.timerTick_state]

@[simp] theorem State.timerTick_sp : s.timerTick.2.sp = s.sp := by
  rw [State.timerTick_state]

@[simp] theorem State.timerTick_pc : s.timerTick.2.pc = s.pc := by
  rw [State.timerTick_state]

@[simp] theorem State.timerTick_ime : s.timerTick.2.ime = s.ime := by
  rw [State.timerTick_state]

@[simp] theorem State.timerTick_halted : s.timerTick.2.halted = s.halted := by
  rw [State.timerTick_state]

@[simp] theorem State.timerTick_haltBug : s.timerTick.2.haltBug = s.haltBug := by
  rw [State.timerTick_state]

@[simp] theorem State.timerTick_eiPending : s.timerTick.2.eiPending = s.eiPending := by
  rw [State.timerTick_state]

@[simp] theorem State.timerTick_fatal : s.timerTick.2.fatal = s.fatal := by
  rw [State.timerTick_state]

@[simp] theorem State.timerTick_ifBits : s.timerTick.2.ifBits = s.ifBits := by
  rw [State.timerTick_state]

@[simp] theorem State.timerTick_ie : s.timerTick.2.ie = s.ie := by
  rw [State.timerTick_state]

@[simp] theorem State.timerTick_tma : s.timerTick.2.tma = s.tma := by
  rw [State.timerTick_state]

@[simp] theorem State.timerTick_tac : s.timerTick.2.tac = s.tac := by
  rw [State.timerTick_state]

@[simp] theorem State.timerTick_sb : s.timerTick.2.sb = s.sb := by
  rw [State.timerTick_state]

@[simp] theorem State.timerTick_sc : s.timerTick.2.sc = s.sc := by
  rw [State.timerTick_state]

@[simp] theorem State.timerTick_out : s.timerTick.2.out = s.out := by
  rw [State.timerTick_state]

@[simp] theorem State.timerTick_mem : s.timerTick.2.mem = s.mem := by
  rw [State.timerTick_state]

@[simp] theorem State.timerTick_ppu : s.timerTick.2.ppu = s.ppu := by
  rw [State.timerTick_state]

@[simp] theorem State.timerTick_clock : s.timerTick.2.clock = s.clock := by
  rw [State.timerTick_state]

@[simp] theorem State.timerTick_cycles : s.timerTick.2.cycles = s.cycles := by
  rw [State.timerTick_state]

@[simp] theorem State.timerTick_host : s.timerTick.2.host = s.host := by
  rw [State.timerTick_state]

@[simp] theorem State.timerTick_params : s.timerTick.2.params = s.params := by
  rw [State.timerTick_state]


end Sys2Proof.Machine
end

