-- ==== Sys2Proof/Laws/Ops.lean ====
section
/-! SUPPORT. What the shared operations can do, said once: the costs, the operand forms, the stack, taking an interrupt and
returning from one. -/

namespace Sys2Proof.Machine

variable (s : State)

/-! ## Costs -/

/-- With no override every instruction costs its table's `cycles` (R380). -/
theorem cost_of_default {p : Config.Params} (h : p.costs = []) (i : Instr) : p.cost i = i.defaultCycles := by
  simp [Config.Params.cost, Config.Params.costOverride, h]

/-- With no override a conditional transfer costs its table's `cycles_taken` when taken (R380). -/
theorem costTaken_of_default {p : Config.Params} (h : p.costs = []) (i : Instr) : p.costTaken i = i.defaultTaken := by
  simp [Config.Params.costTaken, Config.Params.costOverride, h]

/-! ## Reads through an operand form -/

/-- A byte read depends on memory, the devices, the parameters and the collaborator's history only. -/
theorem State.read_congr {s t : State} (hm : t.mem = s.mem) (hp : t.ppu = s.ppu) (hc : t.clock = s.clock)
    (hsb : t.sb = s.sb) (hsc : t.sc = s.sc) (hd : t.counter = s.counter) (hti : t.tima = s.tima) (htm : t.tma = s.tma)
    (hta : t.tac = s.tac) (hi : t.ifBits = s.ifBits) (he : t.ie = s.ie) (hpa : t.params = s.params) (a : Word) :
    (t.read a).1 = (s.read a).1 := by
  unfold State.read
  split <;> simp_all

/-- Reading d8 changes the collaborator's history and nothing else (R98). -/
theorem State.imm8_state : s.imm8.2 = { s with ppu := s.imm8.2.ppu } := State.read_state s _

/-- Reading d16 changes the collaborator's history and nothing else (R98). -/
theorem State.imm16_state : s.imm16.2 = { s with ppu := s.imm16.2.ppu } := State.read16_state s _

/-- Reading `x[i]` changes the collaborator's history and nothing else (R95). -/
theorem State.readOpnd_state (x : Opnd) : (s.readOpnd x).2 = { s with ppu := (s.readOpnd x).2.ppu } := by
  cases x
  · rfl
  · exact State.read_state s _

/-- Reading an accumulator instruction's operand changes the collaborator's history and nothing else. -/
theorem State.readSrc_state (x : Src8) : (s.readSrc x).2 = { s with ppu := (s.readSrc x).2.ppu } := by
  cases x
  · rfl
  · exact State.read_state s _
  · exact State.read_state s _

/-- `Pop16()` moves SP up by 2 and changes the collaborator's history and nothing else (R151). -/
theorem State.pop16_state : s.pop16.2 = { s with sp := s.sp + 2, ppu := s.pop16.2.ppu } := by
  rw [State.mk.injEq]
  simp

/-- SP does not take part in a bus read. -/
theorem State.read_withSp (v a : Word) : State.read { s with sp := v } a = ((s.read a).1, { (s.read a).2 with sp := v }) := by
  unfold State.read
  split <;> rfl

/-- `Pop16()` as two bus reads, SP moved up by 2 (R151). -/
theorem State.pop16_eq : s.pop16 =
    (mkWord ((s.read s.sp).2.read (s.sp + 1)).1 (s.read s.sp).1,
      { ((s.read s.sp).2.read (s.sp + 1)).2 with sp := s.sp + 2 }) := by
  have h : s.sp + 1 + 1 = s.sp + 2 := by bv_omega
  unfold State.pop16
  simp only [State.read_sp, State.read_withSp, h]

/-- `Imm16()` as two bus reads, at PC + 1 and PC + 2 (R98). -/
theorem State.imm16_eq : s.imm16 =
    (mkWord ((s.read (s.pc + 1)).2.read (s.pc + 2)).1 (s.read (s.pc + 1)).1,
      ((s.read (s.pc + 1)).2.read (s.pc + 2)).2) := by
  have h : s.pc + 1 + 1 = s.pc + 2 := by bv_omega
  unfold State.imm16 State.read16
  rw [h]

/-! ## Stores -/

/-- `Push16(v)` as two bus writes, SP moved before each (R150). -/
theorem State.push16_eq (v : Word) : s.push16 v =
    State.write { State.write { s with sp := s.sp - 1 } (s.sp - 1) (hiByte v) with sp := s.sp - 2 } (s.sp - 2)
      (loByte v) := by
  have h : s.sp - 1 - 1 = s.sp - 2 := by bv_omega
  unfold State.push16
  simp only [State.write_sp, h]

/-- Writing `x[i]` keeps everything but the operand: the registers when it is the cell at HL (R95). -/
theorem State.writeOpnd_mhl (v : Byte) : s.writeOpnd .mhl v = s.write s.hl v := rfl

/-- Writing a register operand is writing the register (R95). -/
theorem State.writeOpnd_reg (r : Reg8) (v : Byte) : s.writeOpnd (.reg r) v = s.setReg r v := rfl

/-- Reading back a register just written, and any other one (R95). -/
theorem State.getReg_setReg (r r' : Reg8) (v : Byte) : (s.setReg r v).getReg r' = if r' = r then v else s.getReg r' := by
  cases r <;> cases r' <;> rfl

/-! ## Taking an interrupt and returning from one -/

/-- Trap entry keeps the registers but SP, the flags, `halt_bug`, the clock, the host's inputs and the parameters (R332). -/
theorem State.takeInterrupt_state (src : Source) : s.takeInterrupt src =
    { s with
      ime := false, eiPending := false, sp := s.sp - 2, pc := src.vector, cycles := 20
      mem := (s.takeInterrupt src).mem, ppu := (s.takeInterrupt src).ppu, sb := (s.takeInterrupt src).sb
      sc := (s.takeInterrupt src).sc, out := (s.takeInterrupt src).out, ifBits := (s.takeInterrupt src).ifBits
      ie := (s.takeInterrupt src).ie, counter := (s.takeInterrupt src).counter, tima := (s.takeInterrupt src).tima
      tma := (s.takeInterrupt src).tma, tac := (s.takeInterrupt src).tac, prevBit := (s.takeInterrupt src).prevBit
      reload := (s.takeInterrupt src).reload } := by
  rw [State.mk.injEq]
  simp [State.takeInterrupt, State.service, State.finish]

/-- Trap return keeps everything but PC, SP, IME, the T-cycles and the collaborator's history (R259). -/
theorem State.returnFromInterrupt_state (k : Nat) : s.returnFromInterrupt k =
    { s with
      pc := s.pop16.1, sp := s.sp + 2, ime := true, cycles := k, ppu := s.pop16.2.ppu } := by
  unfold State.returnFromInterrupt State.finish
  simp only
  rw [State.pop16_state]

end Sys2Proof.Machine
end

