-- ==== Sys2Proof/Laws/Engine.lean ====
section
/-! SUPPORT. What the engine can do in one step, said once: the host's actions, the ticks, the fetch, and the ways a step can
end (spec/60_exceptions.md R310 to R322). -/

namespace Sys2Proof.Machine

variable (s : State)

/-! ## Host actions and ticks -/

/-- A host action writes IF and the output only (R321, R322). -/
theorem State.hostAct_state (x : HostAction) :
    s.hostAct x = { s with ifBits := (s.hostAct x).ifBits, out := (s.hostAct x).out } := by
  cases x <;> rfl

/-- A list of host actions writes IF and the output only. -/
theorem State.foldl_hostAct_state (acts : List HostAction) : acts.foldl State.hostAct s =
    { s with ifBits := (acts.foldl State.hostAct s).ifBits, out := (acts.foldl State.hostAct s).out } := by
  induction acts generalizing s with
  | nil => rfl
  | cons x rest ih =>
    rw [List.foldl_cons, ih, State.hostAct_state s x]

/-- After a list of host actions the output is empty if `clear_output` is among them, and as it was otherwise (R322). -/
theorem State.foldl_hostAct_out (acts : List HostAction) : (acts.foldl State.hostAct s).out =
    if HostAction.clearOutput ∈ acts then [] else s.out := by
  induction acts generalizing s with
  | nil => simp
  | cons x rest ih => cases x <;> simp [ih, State.hostAct]

/-- After a list of host actions an IF bit is 1 exactly when it was 1 or its source is among those requested (R302, R321). -/
theorem State.foldl_hostAct_ifBits (acts : List HostAction) {k : Nat} (hk : k < 5) :
    (acts.foldl State.hostAct s).ifBits.getLsbD k = true ↔
      s.ifBits.getLsbD k = true ∨ ∃ src, HostAction.request src ∈ acts ∧ src.bit = k := by
  induction acts generalizing s with
  | nil => simp
  | cons x rest ih =>
    rw [List.foldl_cons, ih]
    cases x with
    | clearOutput => simp [State.hostAct]
    | request src =>
      have hbit : (1#5 <<< src.bit).getLsbD k = true ↔ src.bit = k := by
        clear ih
        revert k; cases src <;> decide
      rw [State.hostAct, State.request_ifBits, BitVec.getLsbD_or, Bool.or_eq_true, hbit]
      simp [or_and_right, exists_or, or_assoc]

/-- The host's turn writes IF and the output and uses up one list of actions. -/
theorem State.hostPhase_state : s.hostPhase =
    { s with host := s.host.tail, ifBits := s.hostPhase.ifBits, out := s.hostPhase.out } := by
  unfold State.hostPhase
  split
  · rename_i h; rw [State.mk.injEq]; simp [h]
  · rename_i acts rest h
    rw [State.foldl_hostAct_state, h]
    rfl

/-- The host's turn neither reads nor writes `halted`. -/
theorem State.hostPhase_halted (b : Bool) :
    State.hostPhase { s with halted := b } = { s.hostPhase with halted := b } := by
  have comm (acts : List HostAction) : ∀ u : State,
      acts.foldl State.hostAct { u with halted := b } = { acts.foldl State.hostAct u with halted := b } := by
    induction acts with
    | nil => intro u; rfl
    | cons x rest ih =>
      intro u
      cases x with
      | request src => exact ih (u.request src)
      | clearOutput => exact ih { u with out := [] }
  unfold State.hostPhase
  simp only
  split
  · rfl
  · rename_i acts rest _
    exact comm acts { s with host := rest }

/-- A tick writes the timer and IF only (R320). -/
theorem State.tick_state : s.tick =
    { s with
      counter := s.counter + 1, tima := s.tick.tima, reload := s.tick.reload, prevBit := s.tick.prevBit
      ifBits := s.tick.ifBits } := by
  unfold State.tick State.request
  simp only
  rw [State.timerTick_state]
  split <;> rfl

/-- Any number of ticks writes the timer and IF only. -/
theorem State.ticks_state (k : Nat) : State.ticks k s =
    { s with
      counter := (State.ticks k s).counter, tima := (State.ticks k s).tima, reload := (State.ticks k s).reload
      prevBit := (State.ticks k s).prevBit, ifBits := (State.ticks k s).ifBits } := by
  induction k generalizing s with
  | zero => rfl
  | succ k ih =>
    unfold State.ticks
    rw [ih, State.tick_state s]

/-- The ticks of `j + k` cycles are those of `j` and then those of `k`. -/
theorem State.ticks_add (j k : Nat) : State.ticks (j + k) s = State.ticks k (State.ticks j s) := by
  induction j generalizing s with
  | zero => simp [State.ticks]
  | succ j ih => rw [Nat.add_right_comm]; exact ih _

/-- The ticks after a step write the timer, IF and the collaborator's clock only (R320). -/
theorem State.elapse_state (k : Nat) : s.elapse k =
    { s with
      counter := (State.ticks k s).counter, tima := (State.ticks k s).tima, reload := (State.ticks k s).reload
      prevBit := (State.ticks k s).prevBit, ifBits := (State.ticks k s).ifBits, clock := s.clock + k } := by
  unfold State.elapse
  simp only
  rw [State.ticks_state]

/-- No tick, no change: what follows a step that raised the fatal condition (R330). -/
@[simp] theorem State.elapse_zero : s.elapse 0 = s := rfl

/-! ## The fetch -/

/-- The fetch changes the collaborator's history and nothing else (R314). -/
theorem State.fetch_state : s.fetch.state = { s with ppu := s.fetch.state.ppu } := by
  unfold State.fetch
  simp only
  split
  · simp only
    rw [State.read_state]
    simp only
    rw [State.read_state s s.pc]
  · simp only
    rw [State.read_state]

/-- Step S7 writes IME and `ei_pending` only (R317). -/
theorem State.afterExec_state (i : Instr) : s.afterExec i =
    { s with ime := s.eiPending || s.ime, eiPending := decide (i = .ei) } := by
  unfold State.afterExec
  rcases hp : s.eiPending with _ | _ <;> by_cases hi : i = .ei <;> simp [hi] <;> (rw [State.mk.injEq]; simp [hp])

/-- S5 takes PC back by one exactly when `halt_bug` is set, and clears it (R315). -/
theorem State.haltBugBack_state : s.haltBugBack =
    { s with haltBug := false, pc := if s.haltBug then s.pc - 1 else s.pc } := by
  unfold State.haltBugBack
  split
  · rfl
  · rename_i h
    rw [State.mk.injEq]
    simp_all

/-- The wake-up writes `halted` only (R311). -/
theorem State.wake_state : s.wake = { s with halted := s.halted && !s.anyPending } := by
  unfold State.wake
  split <;> (rw [State.mk.injEq]; simp_all)

/-! ## How a step ends -/

/-- What an executed instruction leaves at the end of `Step()`: a step that raised the fatal condition ends before S7. -/
theorem runInstr_cases {i : Instr} {s u : State} (h : runInstr i s = .next u) :
    ∃ v, exec i s.haltBugBack = .next v ∧
      ((v.fatal.isSome = true ∧ u = v) ∨ (v.fatal = none ∧ u = v.afterExec i)) := by
  unfold runInstr at h
  split at h
  · rename_i v hv
    refine ⟨v, hv, ?_⟩
    split at h <;> rename_i hf <;> injection h with h
    · exact .inl ⟨hf, h.symm⟩
    · exact .inr ⟨by simpa using hf, h.symm⟩
  · cases h
  · cases h

/-- The four ways `Step()` ends: a dispatch, a halted idle step, an unassigned byte, or an executed instruction (R310). -/
theorem cpuStep_cases {s u : State} (h : cpuStep s = .next u) :
    (∃ src, s.wake.dispatchSource = some src ∧ u = s.wake.takeInterrupt src)
    ∨ (s.wake.dispatchSource = none ∧ s.wake.halted = true ∧ u = { s.wake with cycles := 4 })
    ∨ (s.wake.dispatchSource = none ∧ s.wake.halted = false ∧ s.wake.fetch.instr = none ∧
        u = s.wake.fetch.state.raiseFatal (.unassignedOpcode s.wake.fetch.op))
    ∨ (s.wake.dispatchSource = none ∧ s.wake.halted = false ∧ ∃ i, s.wake.fetch.instr = some i ∧
        runInstr i s.wake.fetch.state = .next u) := by
  unfold cpuStep at h
  simp only at h
  split at h
  · rename_i src hs
    injection h with h
    exact .inl ⟨src, hs, h.symm⟩
  · rename_i hs
    refine .inr ?_
    split at h <;> rename_i hh
    · injection h with h
      exact .inl ⟨hs, hh, h.symm⟩
    · refine .inr ?_
      have hh : s.wake.halted = false := by simpa using hh
      unfold fetchAndRun at h
      simp only at h
      split at h <;> rename_i hi
      · injection h with h
        exact .inl ⟨hs, hh, hi, h.symm⟩
      · exact .inr ⟨hs, hh, _, hi, h⟩

/-- A system step that answers a next state: one `Step()` after the host's turn, then its ticks (R320). -/
theorem step_cases {s t : State} (h : step s = .next t) :
    s.fatal = none ∧ ∃ u, cpuStep s.hostPhase = .next u ∧ t = u.elapse u.cycles := by
  unfold step systemStep at h
  split at h
  · cases h
  · rename_i hf
    refine ⟨hf, ?_⟩
    split at h <;> rename_i hu
    · injection h with h
      exact ⟨_, hu, h.symm⟩
    · cases h
    · cases h

end Sys2Proof.Machine
end

