-- ==== Sys2Proof/Laws/Families.lean ====
section
/-! SUPPORT. The instructions by family: what `exec` answers for each family of instructions, said once over the family's
selectors, and the case analysis of all 500 instructions by family. A law about every instruction needs one case a family. -/

namespace Sys2Proof.Machine

/-- What `exec` answers for the family `Instr.ldRR`. -/
theorem exec_ldRR (dst : Reg8) (src : Reg8) (s : State) :
    exec (Instr.ldRR dst src) s = loadReg (Instr.ldRR dst src) dst (.reg src) s := by
  cases dst <;> cases src <;> rfl

/-- What `exec` answers for the family `Instr.ldRM`. -/
theorem exec_ldRM (r : Reg8) (s : State) :
    exec (Instr.ldRM r) s = loadReg (Instr.ldRM r) r .mhl s := by
  cases r <;> rfl

/-- What `exec` answers for the family `Instr.ldMR`. -/
theorem exec_ldMR (r : Reg8) (s : State) :
    exec (Instr.ldMR r) s = storeByte (Instr.ldMR r) s.hl (s.getReg r) 1 s := by
  cases r <;> rfl

/-- What `exec` answers for the family `Instr.ldRD8`. -/
theorem exec_ldRD8 (r : Reg8) (s : State) :
    exec (Instr.ldRD8 r) s = loadReg (Instr.ldRD8 r) r .d8 s := by
  cases r <;> rfl

/-- What `exec` answers for the family `Instr.alu`. -/
theorem exec_alu (op : AluOp) (x : Src8) (s : State) :
    exec (Instr.alu op x) s = aluA (Instr.alu op x) op x s := by
  cases op <;> rcases x with r | _ | _ <;> first | rfl | (cases r <;> rfl)

/-- What `exec` answers for the family `Instr.incR`. -/
theorem exec_incR (r : Reg8) (s : State) :
    exec (Instr.incR r) s = incOpnd (Instr.incR r) (.reg r) s := by
  cases r <;> rfl

/-- What `exec` answers for the family `Instr.decR`. -/
theorem exec_decR (r : Reg8) (s : State) :
    exec (Instr.decR r) s = decOpnd (Instr.decR r) (.reg r) s := by
  cases r <;> rfl

/-- What `exec` answers for the family `Instr.ld16`. -/
theorem exec_ld16 (r : Reg16) (s : State) :
    exec (Instr.ld16 r) s = loadImm16 (Instr.ld16 r) r s := by
  cases r <;> rfl

/-- What `exec` answers for the family `Instr.addHl`. -/
theorem exec_addHl (r : Reg16) (s : State) :
    exec (Instr.addHl r) s = addToHl (Instr.addHl r) r s := by
  cases r <;> rfl

/-- What `exec` answers for the family `Instr.inc16`. -/
theorem exec_inc16 (r : Reg16) (s : State) :
    exec (Instr.inc16 r) s = stepReg16 (Instr.inc16 r) r 1 s := by
  cases r <;> rfl

/-- What `exec` answers for the family `Instr.dec16`. -/
theorem exec_dec16 (r : Reg16) (s : State) :
    exec (Instr.dec16 r) s = stepReg16 (Instr.dec16 r) r (-1) s := by
  cases r <;> rfl

/-- What `exec` answers for the family `Instr.push`. -/
theorem exec_push (r : Stk16) (s : State) :
    exec (Instr.push r) s = pushPair (Instr.push r) r s := by
  cases r <;> rfl

/-- What `exec` answers for the family `Instr.pop`. -/
theorem exec_pop (r : Stk16) (s : State) :
    exec (Instr.pop r) s = popPair (Instr.pop r) r s := by
  cases r <;> rfl

/-- What `exec` answers for the family `Instr.jpCc`. -/
theorem exec_jpCc (cc : Cond) (s : State) :
    exec (Instr.jpCc cc) s = jumpAbsIf (Instr.jpCc cc) cc s := by
  cases cc <;> rfl

/-- What `exec` answers for the family `Instr.jrCc`. -/
theorem exec_jrCc (cc : Cond) (s : State) :
    exec (Instr.jrCc cc) s = jumpRelIf (Instr.jrCc cc) cc s := by
  cases cc <;> rfl

/-- What `exec` answers for the family `Instr.callCc`. -/
theorem exec_callCc (cc : Cond) (s : State) :
    exec (Instr.callCc cc) s = callAbsIf (Instr.callCc cc) cc s := by
  cases cc <;> rfl

/-- What `exec` answers for the family `Instr.retCc`. -/
theorem exec_retCc (cc : Cond) (s : State) :
    exec (Instr.retCc cc) s = returnIf (Instr.retCc cc) cc s := by
  cases cc <;> rfl

/-- What `exec` answers for the family `Instr.rst`. -/
theorem exec_rst (t : Fin 8) (s : State) :
    exec (Instr.rst t) s = restart (Instr.rst t) (BitVec.ofNat 16 (8 * t.val)) s := by
  fin_cases t <;> rfl

/-- What `exec` answers for the family `Instr.rot`. -/
theorem exec_rot (op : RotOp) (x : Opnd) (s : State) :
    exec (Instr.rot op x) s = rotOpnd (Instr.rot op x) op x s := by
  cases op <;> rcases x with r | _ <;> first | rfl | (cases r <;> rfl)

/-- What `exec` answers for the family `Instr.bit`. -/
theorem exec_bit (b : Fin 8) (x : Opnd) (s : State) :
    exec (Instr.bit b x) s = bitOpnd (Instr.bit b x) b x s := by
  fin_cases b <;> rcases x with r | _ <;> first | rfl | (cases r <;> rfl)

/-- What `exec` answers for the family `Instr.res`. -/
theorem exec_res (b : Fin 8) (x : Opnd) (s : State) :
    exec (Instr.res b x) s = resOpnd (Instr.res b x) b x s := by
  fin_cases b <;> rcases x with r | _ <;> first | rfl | (cases r <;> rfl)

/-- What `exec` answers for the family `Instr.set`. -/
theorem exec_set (b : Fin 8) (x : Opnd) (s : State) :
    exec (Instr.set b x) s = setOpnd (Instr.set b x) b x s := by
  fin_cases b <;> rcases x with r | _ <;> first | rfl | (cases r <;> rfl)

/-- What `exec` answers for the one instruction of its family, `.nop`. -/
theorem exec_nop (s : State) : exec .nop s = nopNext .nop s := rfl

/-- What `exec` answers for the one instruction of its family, `.ldMbcA`. -/
theorem exec_ldMbcA (s : State) : exec .ldMbcA s = storeByte .ldMbcA s.bc s.a 1 s := rfl

/-- What `exec` answers for the one instruction of its family, `.rlca`. -/
theorem exec_rlca (s : State) : exec .rlca s = rotA .rlca .rlc s := rfl

/-- What `exec` answers for the one instruction of its family, `.ldMa16Sp`. -/
theorem exec_ldMa16Sp (s : State) : exec .ldMa16Sp s = storeSp .ldMa16Sp s := rfl

/-- What `exec` answers for the one instruction of its family, `.ldAMbc`. -/
theorem exec_ldAMbc (s : State) : exec .ldAMbc s = loadA .ldAMbc s.bc 1 s := rfl

/-- What `exec` answers for the one instruction of its family, `.rrca`. -/
theorem exec_rrca (s : State) : exec .rrca s = rotA .rrca .rrc s := rfl

/-- What `exec` answers for the one instruction of its family, `.stop`. -/
theorem exec_stop (s : State) : exec .stop s = stopEngine .stop s := rfl

/-- What `exec` answers for the one instruction of its family, `.ldMdeA`. -/
theorem exec_ldMdeA (s : State) : exec .ldMdeA s = storeByte .ldMdeA s.de s.a 1 s := rfl

/-- What `exec` answers for the one instruction of its family, `.rla`. -/
theorem exec_rla (s : State) : exec .rla s = rotA .rla .rl s := rfl

/-- What `exec` answers for the one instruction of its family, `.jrR8`. -/
theorem exec_jrR8 (s : State) : exec .jrR8 s = jumpRel .jrR8 s := rfl

/-- What `exec` answers for the one instruction of its family, `.ldAMde`. -/
theorem exec_ldAMde (s : State) : exec .ldAMde s = loadA .ldAMde s.de 1 s := rfl

/-- What `exec` answers for the one instruction of its family, `.rra`. -/
theorem exec_rra (s : State) : exec .rra s = rotA .rra .rr s := rfl

/-- What `exec` answers for the one instruction of its family, `.ldMhliA`. -/
theorem exec_ldMhliA (s : State) : exec .ldMhliA s = storeAStepHl .ldMhliA 1 s := rfl

/-- What `exec` answers for the one instruction of its family, `.daa`. -/
theorem exec_daa (s : State) : exec .daa s = daaA .daa s := rfl

/-- What `exec` answers for the one instruction of its family, `.ldAMhli`. -/
theorem exec_ldAMhli (s : State) : exec .ldAMhli s = loadAStepHl .ldAMhli 1 s := rfl

/-- What `exec` answers for the one instruction of its family, `.cpl`. -/
theorem exec_cpl (s : State) : exec .cpl s = complementA .cpl s := rfl

/-- What `exec` answers for the one instruction of its family, `.ldMhldA`. -/
theorem exec_ldMhldA (s : State) : exec .ldMhldA s = storeAStepHl .ldMhldA (-1) s := rfl

/-- What `exec` answers for the one instruction of its family, `.incMhl`. -/
theorem exec_incMhl (s : State) : exec .incMhl s = incOpnd .incMhl .mhl s := rfl

/-- What `exec` answers for the one instruction of its family, `.decMhl`. -/
theorem exec_decMhl (s : State) : exec .decMhl s = decOpnd .decMhl .mhl s := rfl

/-- What `exec` answers for the one instruction of its family, `.ldMhlD8`. -/
theorem exec_ldMhlD8 (s : State) : exec .ldMhlD8 s = storeByte .ldMhlD8 s.hl s.imm8.1 2 s.imm8.2 := rfl

/-- What `exec` answers for the one instruction of its family, `.scf`. -/
theorem exec_scf (s : State) : exec .scf s = putCarry .scf true s := rfl

/-- What `exec` answers for the one instruction of its family, `.ldAMhld`. -/
theorem exec_ldAMhld (s : State) : exec .ldAMhld s = loadAStepHl .ldAMhld (-1) s := rfl

/-- What `exec` answers for the one instruction of its family, `.ccf`. -/
theorem exec_ccf (s : State) : exec .ccf s = putCarry .ccf (!s.cf) s := rfl

/-- What `exec` answers for the one instruction of its family, `.halt`. -/
theorem exec_halt (s : State) : exec .halt s = haltEngine .halt s := rfl

/-- What `exec` answers for the one instruction of its family, `.jpA16`. -/
theorem exec_jpA16 (s : State) : exec .jpA16 s = jumpAbs .jpA16 s := rfl

/-- What `exec` answers for the one instruction of its family, `.ret`. -/
theorem exec_ret (s : State) : exec .ret s = returnPop .ret s := rfl

/-- What `exec` answers for the one instruction of its family, `.callA16`. -/
theorem exec_callA16 (s : State) : exec .callA16 s = callAbs .callA16 s := rfl

/-- What `exec` answers for the one instruction of its family, `.reti`. -/
theorem exec_reti (s : State) : exec .reti s = returnInterrupt .reti s := rfl

/-- What `exec` answers for the one instruction of its family, `.ldhMa8A`. -/
theorem exec_ldhMa8A (s : State) : exec .ldhMa8A s = storeByte .ldhMa8A (highPage s.imm8.1) s.a 2 s.imm8.2 := rfl

/-- What `exec` answers for the one instruction of its family, `.ldMcA`. -/
theorem exec_ldMcA (s : State) : exec .ldMcA s = storeByte .ldMcA (highPage s.c) s.a 1 s := rfl

/-- What `exec` answers for the one instruction of its family, `.addSpR8`. -/
theorem exec_addSpR8 (s : State) : exec .addSpR8 s = addToSp .addSpR8 s := rfl

/-- What `exec` answers for the one instruction of its family, `.jpHl`. -/
theorem exec_jpHl (s : State) : exec .jpHl s = jumpHl .jpHl s := rfl

/-- What `exec` answers for the one instruction of its family, `.ldMa16A`. -/
theorem exec_ldMa16A (s : State) : exec .ldMa16A s = storeByte .ldMa16A s.imm16.1 s.a 3 s.imm16.2 := rfl

/-- What `exec` answers for the one instruction of its family, `.ldhAMa8`. -/
theorem exec_ldhAMa8 (s : State) : exec .ldhAMa8 s = loadA .ldhAMa8 (highPage s.imm8.1) 2 s.imm8.2 := rfl

/-- What `exec` answers for the one instruction of its family, `.ldAMc`. -/
theorem exec_ldAMc (s : State) : exec .ldAMc s = loadA .ldAMc (highPage s.c) 1 s := rfl

/-- What `exec` answers for the one instruction of its family, `.di`. -/
theorem exec_di (s : State) : exec .di s = disableInterrupts .di s := rfl

/-- What `exec` answers for the one instruction of its family, `.ldHlSpR8`. -/
theorem exec_ldHlSpR8 (s : State) : exec .ldHlSpR8 s = loadHlSpOffset .ldHlSpR8 s := rfl

/-- What `exec` answers for the one instruction of its family, `.ldSpHl`. -/
theorem exec_ldSpHl (s : State) : exec .ldSpHl s = copyHlToSp .ldSpHl s := rfl

/-- What `exec` answers for the one instruction of its family, `.ldAMa16`. -/
theorem exec_ldAMa16 (s : State) : exec .ldAMa16 s = loadA .ldAMa16 s.imm16.1 3 s.imm16.2 := rfl

/-- What `exec` answers for the one instruction of its family, `.ei`. -/
theorem exec_ei (s : State) : exec .ei s = enableInterruptsLater .ei s := rfl

/-- Case analysis of the 500 instructions by family. -/
theorem Instr.byFamily {P : Instr → Prop}
    (h_ldRR : ∀ (dst : Reg8) (src : Reg8), P (Instr.ldRR dst src))
    (h_ldRM : ∀ (r : Reg8), P (Instr.ldRM r))
    (h_ldMR : ∀ (r : Reg8), P (Instr.ldMR r))
    (h_ldRD8 : ∀ (r : Reg8), P (Instr.ldRD8 r))
    (h_alu : ∀ (op : AluOp) (x : Src8), P (Instr.alu op x))
    (h_incR : ∀ (r : Reg8), P (Instr.incR r))
    (h_decR : ∀ (r : Reg8), P (Instr.decR r))
    (h_ld16 : ∀ (r : Reg16), P (Instr.ld16 r))
    (h_addHl : ∀ (r : Reg16), P (Instr.addHl r))
    (h_inc16 : ∀ (r : Reg16), P (Instr.inc16 r))
    (h_dec16 : ∀ (r : Reg16), P (Instr.dec16 r))
    (h_push : ∀ (r : Stk16), P (Instr.push r))
    (h_pop : ∀ (r : Stk16), P (Instr.pop r))
    (h_jpCc : ∀ (cc : Cond), P (Instr.jpCc cc))
    (h_jrCc : ∀ (cc : Cond), P (Instr.jrCc cc))
    (h_callCc : ∀ (cc : Cond), P (Instr.callCc cc))
    (h_retCc : ∀ (cc : Cond), P (Instr.retCc cc))
    (h_rst : ∀ (t : Fin 8), P (Instr.rst t))
    (h_rot : ∀ (op : RotOp) (x : Opnd), P (Instr.rot op x))
    (h_bit : ∀ (b : Fin 8) (x : Opnd), P (Instr.bit b x))
    (h_res : ∀ (b : Fin 8) (x : Opnd), P (Instr.res b x))
    (h_set : ∀ (b : Fin 8) (x : Opnd), P (Instr.set b x))
    (h_nop : P .nop) (h_ldMbcA : P .ldMbcA) (h_rlca : P .rlca) (h_ldMa16Sp : P .ldMa16Sp) (h_ldAMbc : P .ldAMbc)
    (h_rrca : P .rrca) (h_stop : P .stop) (h_ldMdeA : P .ldMdeA) (h_rla : P .rla) (h_jrR8 : P .jrR8)
    (h_ldAMde : P .ldAMde) (h_rra : P .rra) (h_ldMhliA : P .ldMhliA) (h_daa : P .daa) (h_ldAMhli : P .ldAMhli)
    (h_cpl : P .cpl) (h_ldMhldA : P .ldMhldA) (h_incMhl : P .incMhl) (h_decMhl : P .decMhl) (h_ldMhlD8 : P .ldMhlD8)
    (h_scf : P .scf) (h_ldAMhld : P .ldAMhld) (h_ccf : P .ccf) (h_halt : P .halt) (h_jpA16 : P .jpA16) (h_ret : P .ret)
    (h_callA16 : P .callA16) (h_reti : P .reti) (h_ldhMa8A : P .ldhMa8A) (h_ldMcA : P .ldMcA) (h_addSpR8 : P .addSpR8)
    (h_jpHl : P .jpHl) (h_ldMa16A : P .ldMa16A) (h_ldhAMa8 : P .ldhAMa8) (h_ldAMc : P .ldAMc) (h_di : P .di)
    (h_ldHlSpR8 : P .ldHlSpR8) (h_ldSpHl : P .ldSpHl) (h_ldAMa16 : P .ldAMa16) (h_ei : P .ei)
    (i : Instr) : P i := by
  cases i with
  | nop => exact h_nop
  | ldBcD16 => exact h_ld16 .bc
  | ldMbcA => exact h_ldMbcA
  | incBc => exact h_inc16 .bc
  | incB => exact h_incR .b
  | decB => exact h_decR .b
  | ldBD8 => exact h_ldRD8 .b
  | rlca => exact h_rlca
  | ldMa16Sp => exact h_ldMa16Sp
  | addHlBc => exact h_addHl .bc
  | ldAMbc => exact h_ldAMbc
  | decBc => exact h_dec16 .bc
  | incC => exact h_incR .c
  | decC => exact h_decR .c
  | ldCD8 => exact h_ldRD8 .c
  | rrca => exact h_rrca
  | stop => exact h_stop
  | ldDeD16 => exact h_ld16 .de
  | ldMdeA => exact h_ldMdeA
  | incDe => exact h_inc16 .de
  | incD => exact h_incR .d
  | decD => exact h_decR .d
  | ldDD8 => exact h_ldRD8 .d
  | rla => exact h_rla
  | jrR8 => exact h_jrR8
  | addHlDe => exact h_addHl .de
  | ldAMde => exact h_ldAMde
  | decDe => exact h_dec16 .de
  | incE => exact h_incR .e
  | decE => exact h_decR .e
  | ldED8 => exact h_ldRD8 .e
  | rra => exact h_rra
  | jrNzR8 => exact h_jrCc .nz
  | ldHlD16 => exact h_ld16 .hl
  | ldMhliA => exact h_ldMhliA
  | incHl => exact h_inc16 .hl
  | incH => exact h_incR .h
  | decH => exact h_decR .h
  | ldHD8 => exact h_ldRD8 .h
  | daa => exact h_daa
  | jrZR8 => exact h_jrCc .z
  | addHlHl => exact h_addHl .hl
  | ldAMhli => exact h_ldAMhli
  | decHl => exact h_dec16 .hl
  | incL => exact h_incR .l
  | decL => exact h_decR .l
  | ldLD8 => exact h_ldRD8 .l
  | cpl => exact h_cpl
  | jrNcR8 => exact h_jrCc .nc
  | ldSpD16 => exact h_ld16 .sp
  | ldMhldA => exact h_ldMhldA
  | incSp => exact h_inc16 .sp
  | incMhl => exact h_incMhl
  | decMhl => exact h_decMhl
  | ldMhlD8 => exact h_ldMhlD8
  | scf => exact h_scf
  | jrCR8 => exact h_jrCc .c
  | addHlSp => exact h_addHl .sp
  | ldAMhld => exact h_ldAMhld
  | decSp => exact h_dec16 .sp
  | incA => exact h_incR .a
  | decA => exact h_decR .a
  | ldAD8 => exact h_ldRD8 .a
  | ccf => exact h_ccf
  | ldBB => exact h_ldRR .b .b
  | ldBC => exact h_ldRR .b .c
  | ldBD => exact h_ldRR .b .d
  | ldBE => exact h_ldRR .b .e
  | ldBH => exact h_ldRR .b .h
  | ldBL => exact h_ldRR .b .l
  | ldBMhl => exact h_ldRM .b
  | ldBA => exact h_ldRR .b .a
  | ldCB => exact h_ldRR .c .b
  | ldCC => exact h_ldRR .c .c
  | ldCD => exact h_ldRR .c .d
  | ldCE => exact h_ldRR .c .e
  | ldCH => exact h_ldRR .c .h
  | ldCL => exact h_ldRR .c .l
  | ldCMhl => exact h_ldRM .c
  | ldCA => exact h_ldRR .c .a
  | ldDB => exact h_ldRR .d .b
  | ldDC => exact h_ldRR .d .c
  | ldDD => exact h_ldRR .d .d
  | ldDE => exact h_ldRR .d .e
  | ldDH => exact h_ldRR .d .h
  | ldDL => exact h_ldRR .d .l
  | ldDMhl => exact h_ldRM .d
  | ldDA => exact h_ldRR .d .a
  | ldEB => exact h_ldRR .e .b
  | ldEC => exact h_ldRR .e .c
  | ldED => exact h_ldRR .e .d
  | ldEE => exact h_ldRR .e .e
  | ldEH => exact h_ldRR .e .h
  | ldEL => exact h_ldRR .e .l
  | ldEMhl => exact h_ldRM .e
  | ldEA => exact h_ldRR .e .a
  | ldHB => exact h_ldRR .h .b
  | ldHC => exact h_ldRR .h .c
  | ldHD => exact h_ldRR .h .d
  | ldHE => exact h_ldRR .h .e
  | ldHH => exact h_ldRR .h .h
  | ldHL => exact h_ldRR .h .l
  | ldHMhl => exact h_ldRM .h
  | ldHA => exact h_ldRR .h .a
  | ldLB => exact h_ldRR .l .b
  | ldLC => exact h_ldRR .l .c
  | ldLD => exact h_ldRR .l .d
  | ldLE => exact h_ldRR .l .e
  | ldLH => exact h_ldRR .l .h
  | ldLL => exact h_ldRR .l .l
  | ldLMhl => exact h_ldRM .l
  | ldLA => exact h_ldRR .l .a
  | ldMhlB => exact h_ldMR .b
  | ldMhlC => exact h_ldMR .c
  | ldMhlD => exact h_ldMR .d
  | ldMhlE => exact h_ldMR .e
  | ldMhlH => exact h_ldMR .h
  | ldMhlL => exact h_ldMR .l
  | halt => exact h_halt
  | ldMhlA => exact h_ldMR .a
  | ldAB => exact h_ldRR .a .b
  | ldAC => exact h_ldRR .a .c
  | ldAD => exact h_ldRR .a .d
  | ldAE => exact h_ldRR .a .e
  | ldAH => exact h_ldRR .a .h
  | ldAL => exact h_ldRR .a .l
  | ldAMhl => exact h_ldRM .a
  | ldAA => exact h_ldRR .a .a
  | addAB => exact h_alu .add (.reg .b)
  | addAC => exact h_alu .add (.reg .c)
  | addAD => exact h_alu .add (.reg .d)
  | addAE => exact h_alu .add (.reg .e)
  | addAH => exact h_alu .add (.reg .h)
  | addAL => exact h_alu .add (.reg .l)
  | addAMhl => exact h_alu .add .mhl
  | addAA => exact h_alu .add (.reg .a)
  | adcAB => exact h_alu .adc (.reg .b)
  | adcAC => exact h_alu .adc (.reg .c)
  | adcAD => exact h_alu .adc (.reg .d)
  | adcAE => exact h_alu .adc (.reg .e)
  | adcAH => exact h_alu .adc (.reg .h)
  | adcAL => exact h_alu .adc (.reg .l)
  | adcAMhl => exact h_alu .adc .mhl
  | adcAA => exact h_alu .adc (.reg .a)
  | subAB => exact h_alu .sub (.reg .b)
  | subAC => exact h_alu .sub (.reg .c)
  | subAD => exact h_alu .sub (.reg .d)
  | subAE => exact h_alu .sub (.reg .e)
  | subAH => exact h_alu .sub (.reg .h)
  | subAL => exact h_alu .sub (.reg .l)
  | subAMhl => exact h_alu .sub .mhl
  | subAA => exact h_alu .sub (.reg .a)
  | sbcAB => exact h_alu .sbc (.reg .b)
  | sbcAC => exact h_alu .sbc (.reg .c)
  | sbcAD => exact h_alu .sbc (.reg .d)
  | sbcAE => exact h_alu .sbc (.reg .e)
  | sbcAH => exact h_alu .sbc (.reg .h)
  | sbcAL => exact h_alu .sbc (.reg .l)
  | sbcAMhl => exact h_alu .sbc .mhl
  | sbcAA => exact h_alu .sbc (.reg .a)
  | andAB => exact h_alu .and (.reg .b)
  | andAC => exact h_alu .and (.reg .c)
  | andAD => exact h_alu .and (.reg .d)
  | andAE => exact h_alu .and (.reg .e)
  | andAH => exact h_alu .and (.reg .h)
  | andAL => exact h_alu .and (.reg .l)
  | andAMhl => exact h_alu .and .mhl
  | andAA => exact h_alu .and (.reg .a)
  | xorAB => exact h_alu .xor (.reg .b)
  | xorAC => exact h_alu .xor (.reg .c)
  | xorAD => exact h_alu .xor (.reg .d)
  | xorAE => exact h_alu .xor (.reg .e)
  | xorAH => exact h_alu .xor (.reg .h)
  | xorAL => exact h_alu .xor (.reg .l)
  | xorAMhl => exact h_alu .xor .mhl
  | xorAA => exact h_alu .xor (.reg .a)
  | orAB => exact h_alu .or (.reg .b)
  | orAC => exact h_alu .or (.reg .c)
  | orAD => exact h_alu .or (.reg .d)
  | orAE => exact h_alu .or (.reg .e)
  | orAH => exact h_alu .or (.reg .h)
  | orAL => exact h_alu .or (.reg .l)
  | orAMhl => exact h_alu .or .mhl
  | orAA => exact h_alu .or (.reg .a)
  | cpAB => exact h_alu .cp (.reg .b)
  | cpAC => exact h_alu .cp (.reg .c)
  | cpAD => exact h_alu .cp (.reg .d)
  | cpAE => exact h_alu .cp (.reg .e)
  | cpAH => exact h_alu .cp (.reg .h)
  | cpAL => exact h_alu .cp (.reg .l)
  | cpAMhl => exact h_alu .cp .mhl
  | cpAA => exact h_alu .cp (.reg .a)
  | retNz => exact h_retCc .nz
  | popBc => exact h_pop .bc
  | jpNzA16 => exact h_jpCc .nz
  | jpA16 => exact h_jpA16
  | callNzA16 => exact h_callCc .nz
  | pushBc => exact h_push .bc
  | addAD8 => exact h_alu .add .d8
  | rst00 => exact h_rst 0
  | retZ => exact h_retCc .z
  | ret => exact h_ret
  | jpZA16 => exact h_jpCc .z
  | callZA16 => exact h_callCc .z
  | callA16 => exact h_callA16
  | adcAD8 => exact h_alu .adc .d8
  | rst08 => exact h_rst 1
  | retNc => exact h_retCc .nc
  | popDe => exact h_pop .de
  | jpNcA16 => exact h_jpCc .nc
  | callNcA16 => exact h_callCc .nc
  | pushDe => exact h_push .de
  | subAD8 => exact h_alu .sub .d8
  | rst10 => exact h_rst 2
  | retC => exact h_retCc .c
  | reti => exact h_reti
  | jpCA16 => exact h_jpCc .c
  | callCA16 => exact h_callCc .c
  | sbcAD8 => exact h_alu .sbc .d8
  | rst18 => exact h_rst 3
  | ldhMa8A => exact h_ldhMa8A
  | popHl => exact h_pop .hl
  | ldMcA => exact h_ldMcA
  | pushHl => exact h_push .hl
  | andAD8 => exact h_alu .and .d8
  | rst20 => exact h_rst 4
  | addSpR8 => exact h_addSpR8
  | jpHl => exact h_jpHl
  | ldMa16A => exact h_ldMa16A
  | xorAD8 => exact h_alu .xor .d8
  | rst28 => exact h_rst 5
  | ldhAMa8 => exact h_ldhAMa8
  | popAf => exact h_pop .af
  | ldAMc => exact h_ldAMc
  | di => exact h_di
  | pushAf => exact h_push .af
  | orAD8 => exact h_alu .or .d8
  | rst30 => exact h_rst 6
  | ldHlSpR8 => exact h_ldHlSpR8
  | ldSpHl => exact h_ldSpHl
  | ldAMa16 => exact h_ldAMa16
  | ei => exact h_ei
  | cpAD8 => exact h_alu .cp .d8
  | rst38 => exact h_rst 7
  | cbRlcB => exact h_rot .rlc (.reg .b)
  | cbRlcC => exact h_rot .rlc (.reg .c)
  | cbRlcD => exact h_rot .rlc (.reg .d)
  | cbRlcE => exact h_rot .rlc (.reg .e)
  | cbRlcH => exact h_rot .rlc (.reg .h)
  | cbRlcL => exact h_rot .rlc (.reg .l)
  | cbRlcMhl => exact h_rot .rlc .mhl
  | cbRlcA => exact h_rot .rlc (.reg .a)
  | cbRrcB => exact h_rot .rrc (.reg .b)
  | cbRrcC => exact h_rot .rrc (.reg .c)
  | cbRrcD => exact h_rot .rrc (.reg .d)
  | cbRrcE => exact h_rot .rrc (.reg .e)
  | cbRrcH => exact h_rot .rrc (.reg .h)
  | cbRrcL => exact h_rot .rrc (.reg .l)
  | cbRrcMhl => exact h_rot .rrc .mhl
  | cbRrcA => exact h_rot .rrc (.reg .a)
  | cbRlB => exact h_rot .rl (.reg .b)
  | cbRlC => exact h_rot .rl (.reg .c)
  | cbRlD => exact h_rot .rl (.reg .d)
  | cbRlE => exact h_rot .rl (.reg .e)
  | cbRlH => exact h_rot .rl (.reg .h)
  | cbRlL => exact h_rot .rl (.reg .l)
  | cbRlMhl => exact h_rot .rl .mhl
  | cbRlA => exact h_rot .rl (.reg .a)
  | cbRrB => exact h_rot .rr (.reg .b)
  | cbRrC => exact h_rot .rr (.reg .c)
  | cbRrD => exact h_rot .rr (.reg .d)
  | cbRrE => exact h_rot .rr (.reg .e)
  | cbRrH => exact h_rot .rr (.reg .h)
  | cbRrL => exact h_rot .rr (.reg .l)
  | cbRrMhl => exact h_rot .rr .mhl
  | cbRrA => exact h_rot .rr (.reg .a)
  | cbSlaB => exact h_rot .sla (.reg .b)
  | cbSlaC => exact h_rot .sla (.reg .c)
  | cbSlaD => exact h_rot .sla (.reg .d)
  | cbSlaE => exact h_rot .sla (.reg .e)
  | cbSlaH => exact h_rot .sla (.reg .h)
  | cbSlaL => exact h_rot .sla (.reg .l)
  | cbSlaMhl => exact h_rot .sla .mhl
  | cbSlaA => exact h_rot .sla (.reg .a)
  | cbSraB => exact h_rot .sra (.reg .b)
  | cbSraC => exact h_rot .sra (.reg .c)
  | cbSraD => exact h_rot .sra (.reg .d)
  | cbSraE => exact h_rot .sra (.reg .e)
  | cbSraH => exact h_rot .sra (.reg .h)
  | cbSraL => exact h_rot .sra (.reg .l)
  | cbSraMhl => exact h_rot .sra .mhl
  | cbSraA => exact h_rot .sra (.reg .a)
  | cbSwapB => exact h_rot .swap (.reg .b)
  | cbSwapC => exact h_rot .swap (.reg .c)
  | cbSwapD => exact h_rot .swap (.reg .d)
  | cbSwapE => exact h_rot .swap (.reg .e)
  | cbSwapH => exact h_rot .swap (.reg .h)
  | cbSwapL => exact h_rot .swap (.reg .l)
  | cbSwapMhl => exact h_rot .swap .mhl
  | cbSwapA => exact h_rot .swap (.reg .a)
  | cbSrlB => exact h_rot .srl (.reg .b)
  | cbSrlC => exact h_rot .srl (.reg .c)
  | cbSrlD => exact h_rot .srl (.reg .d)
  | cbSrlE => exact h_rot .srl (.reg .e)
  | cbSrlH => exact h_rot .srl (.reg .h)
  | cbSrlL => exact h_rot .srl (.reg .l)
  | cbSrlMhl => exact h_rot .srl .mhl
  | cbSrlA => exact h_rot .srl (.reg .a)
  | bit0B => exact h_bit 0 (.reg .b)
  | bit0C => exact h_bit 0 (.reg .c)
  | bit0D => exact h_bit 0 (.reg .d)
  | bit0E => exact h_bit 0 (.reg .e)
  | bit0H => exact h_bit 0 (.reg .h)
  | bit0L => exact h_bit 0 (.reg .l)
  | bit0Mhl => exact h_bit 0 .mhl
  | bit0A => exact h_bit 0 (.reg .a)
  | bit1B => exact h_bit 1 (.reg .b)
  | bit1C => exact h_bit 1 (.reg .c)
  | bit1D => exact h_bit 1 (.reg .d)
  | bit1E => exact h_bit 1 (.reg .e)
  | bit1H => exact h_bit 1 (.reg .h)
  | bit1L => exact h_bit 1 (.reg .l)
  | bit1Mhl => exact h_bit 1 .mhl
  | bit1A => exact h_bit 1 (.reg .a)
  | bit2B => exact h_bit 2 (.reg .b)
  | bit2C => exact h_bit 2 (.reg .c)
  | bit2D => exact h_bit 2 (.reg .d)
  | bit2E => exact h_bit 2 (.reg .e)
  | bit2H => exact h_bit 2 (.reg .h)
  | bit2L => exact h_bit 2 (.reg .l)
  | bit2Mhl => exact h_bit 2 .mhl
  | bit2A => exact h_bit 2 (.reg .a)
  | bit3B => exact h_bit 3 (.reg .b)
  | bit3C => exact h_bit 3 (.reg .c)
  | bit3D => exact h_bit 3 (.reg .d)
  | bit3E => exact h_bit 3 (.reg .e)
  | bit3H => exact h_bit 3 (.reg .h)
  | bit3L => exact h_bit 3 (.reg .l)
  | bit3Mhl => exact h_bit 3 .mhl
  | bit3A => exact h_bit 3 (.reg .a)
  | bit4B => exact h_bit 4 (.reg .b)
  | bit4C => exact h_bit 4 (.reg .c)
  | bit4D => exact h_bit 4 (.reg .d)
  | bit4E => exact h_bit 4 (.reg .e)
  | bit4H => exact h_bit 4 (.reg .h)
  | bit4L => exact h_bit 4 (.reg .l)
  | bit4Mhl => exact h_bit 4 .mhl
  | bit4A => exact h_bit 4 (.reg .a)
  | bit5B => exact h_bit 5 (.reg .b)
  | bit5C => exact h_bit 5 (.reg .c)
  | bit5D => exact h_bit 5 (.reg .d)
  | bit5E => exact h_bit 5 (.reg .e)
  | bit5H => exact h_bit 5 (.reg .h)
  | bit5L => exact h_bit 5 (.reg .l)
  | bit5Mhl => exact h_bit 5 .mhl
  | bit5A => exact h_bit 5 (.reg .a)
  | bit6B => exact h_bit 6 (.reg .b)
  | bit6C => exact h_bit 6 (.reg .c)
  | bit6D => exact h_bit 6 (.reg .d)
  | bit6E => exact h_bit 6 (.reg .e)
  | bit6H => exact h_bit 6 (.reg .h)
  | bit6L => exact h_bit 6 (.reg .l)
  | bit6Mhl => exact h_bit 6 .mhl
  | bit6A => exact h_bit 6 (.reg .a)
  | bit7B => exact h_bit 7 (.reg .b)
  | bit7C => exact h_bit 7 (.reg .c)
  | bit7D => exact h_bit 7 (.reg .d)
  | bit7E => exact h_bit 7 (.reg .e)
  | bit7H => exact h_bit 7 (.reg .h)
  | bit7L => exact h_bit 7 (.reg .l)
  | bit7Mhl => exact h_bit 7 .mhl
  | bit7A => exact h_bit 7 (.reg .a)
  | res0B => exact h_res 0 (.reg .b)
  | res0C => exact h_res 0 (.reg .c)
  | res0D => exact h_res 0 (.reg .d)
  | res0E => exact h_res 0 (.reg .e)
  | res0H => exact h_res 0 (.reg .h)
  | res0L => exact h_res 0 (.reg .l)
  | res0Mhl => exact h_res 0 .mhl
  | res0A => exact h_res 0 (.reg .a)
  | res1B => exact h_res 1 (.reg .b)
  | res1C => exact h_res 1 (.reg .c)
  | res1D => exact h_res 1 (.reg .d)
  | res1E => exact h_res 1 (.reg .e)
  | res1H => exact h_res 1 (.reg .h)
  | res1L => exact h_res 1 (.reg .l)
  | res1Mhl => exact h_res 1 .mhl
  | res1A => exact h_res 1 (.reg .a)
  | res2B => exact h_res 2 (.reg .b)
  | res2C => exact h_res 2 (.reg .c)
  | res2D => exact h_res 2 (.reg .d)
  | res2E => exact h_res 2 (.reg .e)
  | res2H => exact h_res 2 (.reg .h)
  | res2L => exact h_res 2 (.reg .l)
  | res2Mhl => exact h_res 2 .mhl
  | res2A => exact h_res 2 (.reg .a)
  | res3B => exact h_res 3 (.reg .b)
  | res3C => exact h_res 3 (.reg .c)
  | res3D => exact h_res 3 (.reg .d)
  | res3E => exact h_res 3 (.reg .e)
  | res3H => exact h_res 3 (.reg .h)
  | res3L => exact h_res 3 (.reg .l)
  | res3Mhl => exact h_res 3 .mhl
  | res3A => exact h_res 3 (.reg .a)
  | res4B => exact h_res 4 (.reg .b)
  | res4C => exact h_res 4 (.reg .c)
  | res4D => exact h_res 4 (.reg .d)
  | res4E => exact h_res 4 (.reg .e)
  | res4H => exact h_res 4 (.reg .h)
  | res4L => exact h_res 4 (.reg .l)
  | res4Mhl => exact h_res 4 .mhl
  | res4A => exact h_res 4 (.reg .a)
  | res5B => exact h_res 5 (.reg .b)
  | res5C => exact h_res 5 (.reg .c)
  | res5D => exact h_res 5 (.reg .d)
  | res5E => exact h_res 5 (.reg .e)
  | res5H => exact h_res 5 (.reg .h)
  | res5L => exact h_res 5 (.reg .l)
  | res5Mhl => exact h_res 5 .mhl
  | res5A => exact h_res 5 (.reg .a)
  | res6B => exact h_res 6 (.reg .b)
  | res6C => exact h_res 6 (.reg .c)
  | res6D => exact h_res 6 (.reg .d)
  | res6E => exact h_res 6 (.reg .e)
  | res6H => exact h_res 6 (.reg .h)
  | res6L => exact h_res 6 (.reg .l)
  | res6Mhl => exact h_res 6 .mhl
  | res6A => exact h_res 6 (.reg .a)
  | res7B => exact h_res 7 (.reg .b)
  | res7C => exact h_res 7 (.reg .c)
  | res7D => exact h_res 7 (.reg .d)
  | res7E => exact h_res 7 (.reg .e)
  | res7H => exact h_res 7 (.reg .h)
  | res7L => exact h_res 7 (.reg .l)
  | res7Mhl => exact h_res 7 .mhl
  | res7A => exact h_res 7 (.reg .a)
  | set0B => exact h_set 0 (.reg .b)
  | set0C => exact h_set 0 (.reg .c)
  | set0D => exact h_set 0 (.reg .d)
  | set0E => exact h_set 0 (.reg .e)
  | set0H => exact h_set 0 (.reg .h)
  | set0L => exact h_set 0 (.reg .l)
  | set0Mhl => exact h_set 0 .mhl
  | set0A => exact h_set 0 (.reg .a)
  | set1B => exact h_set 1 (.reg .b)
  | set1C => exact h_set 1 (.reg .c)
  | set1D => exact h_set 1 (.reg .d)
  | set1E => exact h_set 1 (.reg .e)
  | set1H => exact h_set 1 (.reg .h)
  | set1L => exact h_set 1 (.reg .l)
  | set1Mhl => exact h_set 1 .mhl
  | set1A => exact h_set 1 (.reg .a)
  | set2B => exact h_set 2 (.reg .b)
  | set2C => exact h_set 2 (.reg .c)
  | set2D => exact h_set 2 (.reg .d)
  | set2E => exact h_set 2 (.reg .e)
  | set2H => exact h_set 2 (.reg .h)
  | set2L => exact h_set 2 (.reg .l)
  | set2Mhl => exact h_set 2 .mhl
  | set2A => exact h_set 2 (.reg .a)
  | set3B => exact h_set 3 (.reg .b)
  | set3C => exact h_set 3 (.reg .c)
  | set3D => exact h_set 3 (.reg .d)
  | set3E => exact h_set 3 (.reg .e)
  | set3H => exact h_set 3 (.reg .h)
  | set3L => exact h_set 3 (.reg .l)
  | set3Mhl => exact h_set 3 .mhl
  | set3A => exact h_set 3 (.reg .a)
  | set4B => exact h_set 4 (.reg .b)
  | set4C => exact h_set 4 (.reg .c)
  | set4D => exact h_set 4 (.reg .d)
  | set4E => exact h_set 4 (.reg .e)
  | set4H => exact h_set 4 (.reg .h)
  | set4L => exact h_set 4 (.reg .l)
  | set4Mhl => exact h_set 4 .mhl
  | set4A => exact h_set 4 (.reg .a)
  | set5B => exact h_set 5 (.reg .b)
  | set5C => exact h_set 5 (.reg .c)
  | set5D => exact h_set 5 (.reg .d)
  | set5E => exact h_set 5 (.reg .e)
  | set5H => exact h_set 5 (.reg .h)
  | set5L => exact h_set 5 (.reg .l)
  | set5Mhl => exact h_set 5 .mhl
  | set5A => exact h_set 5 (.reg .a)
  | set6B => exact h_set 6 (.reg .b)
  | set6C => exact h_set 6 (.reg .c)
  | set6D => exact h_set 6 (.reg .d)
  | set6E => exact h_set 6 (.reg .e)
  | set6H => exact h_set 6 (.reg .h)
  | set6L => exact h_set 6 (.reg .l)
  | set6Mhl => exact h_set 6 .mhl
  | set6A => exact h_set 6 (.reg .a)
  | set7B => exact h_set 7 (.reg .b)
  | set7C => exact h_set 7 (.reg .c)
  | set7D => exact h_set 7 (.reg .d)
  | set7E => exact h_set 7 (.reg .e)
  | set7H => exact h_set 7 (.reg .h)
  | set7L => exact h_set 7 (.reg .l)
  | set7Mhl => exact h_set 7 .mhl
  | set7A => exact h_set 7 (.reg .a)

end Sys2Proof.Machine
end

