-- ==== Sys2Proof/Laws/Invariant.lean ====
section
/-! SUPPORT. The invariant of the state (Sys2Proof/Safety.lean) through a bus read, a bus write and a tick of the timer. -/

namespace Sys2Proof

open Sys2Proof.Machine

/-- The invariant reads memory and the timer only. -/
theorem StateOk.of_same {s t : State} (h : StateOk s) (hm : t.mem = s.mem) (hr : t.reload = s.reload)
    (hp : t.prevBit = s.prevBit) (hc : t.counter = s.counter) (ht : t.tac = s.tac) : StateOk t where
  memory := by rw [hm]; exact h.memory
  cells := by rw [hm]; exact h.cells
  reload := by rw [hr]; exact h.reload
  prevBit := by rw [hp, h.prevBit]; simp [State.selectedBit, hc, ht]

/-- An edge check keeps the invariant, and restores its last clause. -/
theorem StateOk.edgeCheck {s : State} (hm : s.mem.wf) (hc : ∀ x ∈ s.mem, storedCell x.1 = true)
    (hr : reloadOk s.reload = true) : StateOk s.edgeCheck where
  memory := by rw [State.edgeCheck_state]; exact hm
  cells := by rw [State.edgeCheck_state]; exact hc
  reload := State.edgeCheck_reload s hr
  prevBit := State.edgeCheck_prevBit s

/-- A bus read keeps the invariant. -/
theorem StateOk.read {s : State} (h : StateOk s) (a : Word) : StateOk (s.read a).2 := by
  rw [State.read_state]
  exact h.of_same rfl rfl rfl rfl rfl

/-- A bus write keeps the invariant. -/
theorem StateOk.write {s : State} (h : StateOk s) (a : Word) (v : Byte) : StateOk (s.write a v) := by
  unfold State.write
  split
  · exact h
  · rename_i cell hb
    refine ⟨Memory.wf_writeByte h.memory _ _, fun x hx => ?_, h.reload, h.prevBit⟩
    rcases Memory.mem_writeByte hx with hx | ⟨rfl, -⟩
    · exact h.cells x hx
    · exact (storedCell_of_busTarget_ram hb).1
  · exact h.of_same rfl rfl rfl rfl rfl
  · exact h.of_same rfl rfl rfl rfl rfl
  · exact h
  · exact h.of_same rfl rfl rfl rfl rfl
  · unfold State.writeSc
    simp only
    split
    · split <;> exact h.of_same rfl rfl rfl rfl rfl
    · exact h.of_same rfl rfl rfl rfl rfl
  · exact StateOk.edgeCheck h.memory h.cells h.reload
  · exact ⟨h.memory, h.cells, rfl, h.prevBit⟩
  · exact h.of_same rfl rfl rfl rfl rfl
  · exact StateOk.edgeCheck h.memory h.cells h.reload
  · exact h.of_same rfl rfl rfl rfl rfl
  · exact h.of_same rfl rfl rfl rfl rfl

/-- A tick of the timer keeps the invariant. -/
theorem StateOk.timerTick {s : State} (h : StateOk s) : StateOk s.timerTick.2 := by
  unfold State.timerTick
  simp only
  refine StateOk.edgeCheck ?_ ?_ ?_
  · rw [State.reloadTick_state]; exact h.memory
  · rw [State.reloadTick_state]; exact h.cells
  · exact State.reloadTick_reload _ h.reload

end Sys2Proof
end

