-- ==== Sys2Proof/Laws/PerInstr.lean ====
section
/-! SUPPORT. One lemma per instruction about its shape as the opcode table gives it (spec/30_encoding.md R90, R108;
spec/70_reset_and_hazards.md R380): family `OpcodeShape`. -/

namespace Sys2Proof.Laws.OpcodeShape

/-- The shape of an instruction: two opcode bytes exactly after the prefix, and then no operand byte; at most three bytes in
all; a cost from 4 to 24 T-cycles, and no less when a transfer is taken. -/
def Statement (i : Instr) : Prop :=
  (i.opcodeBytes.length = 2 ↔ i.opcodeBytes.head? = some 0xCB) ∧ (i.opcodeBytes.length = 2 → i.operandBytes = 0)
    ∧ 1 ≤ i.length ∧ i.length ≤ 3 ∧ 4 ≤ i.defaultCycles ∧ i.defaultCycles ≤ i.defaultTaken ∧ i.defaultTaken ≤ 24

/-- The same as a test. -/
def holds (i : Instr) : Bool :=
  ((i.opcodeBytes.length == 2) == (i.opcodeBytes.head? == some 0xCB)) && (!(i.opcodeBytes.length == 2) || i.operandBytes == 0)
    && Nat.ble 1 i.length && Nat.ble i.length 3 && Nat.ble 4 i.defaultCycles && Nat.ble i.defaultCycles i.defaultTaken
    && Nat.ble i.defaultTaken 24

/-- The test is right. -/
theorem of_holds {i : Instr} (h : holds i = true) : Statement i := by
  simp only [holds, Bool.and_eq_true, Nat.ble_eq, Bool.or_eq_true, beq_iff_eq, Bool.not_eq_true'] at h
  obtain ⟨⟨⟨⟨⟨⟨h1, h2⟩, h3⟩, h4⟩, h5⟩, h6⟩, h7⟩ := h
  refine ⟨?_, fun hl => h2.resolve_left (by simp [hl]), h3, h4, h5, h6, h7⟩
  rw [Bool.eq_iff_iff, beq_iff_eq, beq_iff_eq] at h1
  exact h1

theorem nop : Statement .nop := of_holds (Eq.refl true)
theorem ldBcD16 : Statement .ldBcD16 := of_holds (Eq.refl true)
theorem ldMbcA : Statement .ldMbcA := of_holds (Eq.refl true)
theorem incBc : Statement .incBc := of_holds (Eq.refl true)
theorem incB : Statement .incB := of_holds (Eq.refl true)
theorem decB : Statement .decB := of_holds (Eq.refl true)
theorem ldBD8 : Statement .ldBD8 := of_holds (Eq.refl true)
theorem rlca : Statement .rlca := of_holds (Eq.refl true)
theorem ldMa16Sp : Statement .ldMa16Sp := of_holds (Eq.refl true)
theorem addHlBc : Statement .addHlBc := of_holds (Eq.refl true)
theorem ldAMbc : Statement .ldAMbc := of_holds (Eq.refl true)
theorem decBc : Statement .decBc := of_holds (Eq.refl true)
theorem incC : Statement .incC := of_holds (Eq.refl true)
theorem decC : Statement .decC := of_holds (Eq.refl true)
theorem ldCD8 : Statement .ldCD8 := of_holds (Eq.refl true)
theorem rrca : Statement .rrca := of_holds (Eq.refl true)
theorem stop : Statement .stop := of_holds (Eq.refl true)
theorem ldDeD16 : Statement .ldDeD16 := of_holds (Eq.refl true)
theorem ldMdeA : Statement .ldMdeA := of_holds (Eq.refl true)
theorem incDe : Statement .incDe := of_holds (Eq.refl true)
theorem incD : Statement .incD := of_holds (Eq.refl true)
theorem decD : Statement .decD := of_holds (Eq.refl true)
theorem ldDD8 : Statement .ldDD8 := of_holds (Eq.refl true)
theorem rla : Statement .rla := of_holds (Eq.refl true)
theorem jrR8 : Statement .jrR8 := of_holds (Eq.refl true)
theorem addHlDe : Statement .addHlDe := of_holds (Eq.refl true)
theorem ldAMde : Statement .ldAMde := of_holds (Eq.refl true)
theorem decDe : Statement .decDe := of_holds (Eq.refl true)
theorem incE : Statement .incE := of_holds (Eq.refl true)
theorem decE : Statement .decE := of_holds (Eq.refl true)
theorem ldED8 : Statement .ldED8 := of_holds (Eq.refl true)
theorem rra : Statement .rra := of_holds (Eq.refl true)
theorem jrNzR8 : Statement .jrNzR8 := of_holds (Eq.refl true)
theorem ldHlD16 : Statement .ldHlD16 := of_holds (Eq.refl true)
theorem ldMhliA : Statement .ldMhliA := of_holds (Eq.refl true)
theorem incHl : Statement .incHl := of_holds (Eq.refl true)
theorem incH : Statement .incH := of_holds (Eq.refl true)
theorem decH : Statement .decH := of_holds (Eq.refl true)
theorem ldHD8 : Statement .ldHD8 := of_holds (Eq.refl true)
theorem daa : Statement .daa := of_holds (Eq.refl true)
theorem jrZR8 : Statement .jrZR8 := of_holds (Eq.refl true)
theorem addHlHl : Statement .addHlHl := of_holds (Eq.refl true)
theorem ldAMhli : Statement .ldAMhli := of_holds (Eq.refl true)
theorem decHl : Statement .decHl := of_holds (Eq.refl true)
theorem incL : Statement .incL := of_holds (Eq.refl true)
theorem decL : Statement .decL := of_holds (Eq.refl true)
theorem ldLD8 : Statement .ldLD8 := of_holds (Eq.refl true)
theorem cpl : Statement .cpl := of_holds (Eq.refl true)
theorem jrNcR8 : Statement .jrNcR8 := of_holds (Eq.refl true)
theorem ldSpD16 : Statement .ldSpD16 := of_holds (Eq.refl true)
theorem ldMhldA : Statement .ldMhldA := of_holds (Eq.refl true)
theorem incSp : Statement .incSp := of_holds (Eq.refl true)
theorem incMhl : Statement .incMhl := of_holds (Eq.refl true)
theorem decMhl : Statement .decMhl := of_holds (Eq.refl true)
theorem ldMhlD8 : Statement .ldMhlD8 := of_holds (Eq.refl true)
theorem scf : Statement .scf := of_holds (Eq.refl true)
theorem jrCR8 : Statement .jrCR8 := of_holds (Eq.refl true)
theorem addHlSp : Statement .addHlSp := of_holds (Eq.refl true)
theorem ldAMhld : Statement .ldAMhld := of_holds (Eq.refl true)
theorem decSp : Statement .decSp := of_holds (Eq.refl true)
theorem incA : Statement .incA := of_holds (Eq.refl true)
theorem decA : Statement .decA := of_holds (Eq.refl true)
theorem ldAD8 : Statement .ldAD8 := of_holds (Eq.refl true)
theorem ccf : Statement .ccf := of_holds (Eq.refl true)
theorem ldBB : Statement .ldBB := of_holds (Eq.refl true)
theorem ldBC : Statement .ldBC := of_holds (Eq.refl true)
theorem ldBD : Statement .ldBD := of_holds (Eq.refl true)
theorem ldBE : Statement .ldBE := of_holds (Eq.refl true)
theorem ldBH : Statement .ldBH := of_holds (Eq.refl true)
theorem ldBL : Statement .ldBL := of_holds (Eq.refl true)
theorem ldBMhl : Statement .ldBMhl := of_holds (Eq.refl true)
theorem ldBA : Statement .ldBA := of_holds (Eq.refl true)
theorem ldCB : Statement .ldCB := of_holds (Eq.refl true)
theorem ldCC : Statement .ldCC := of_holds (Eq.refl true)
theorem ldCD : Statement .ldCD := of_holds (Eq.refl true)
theorem ldCE : Statement .ldCE := of_holds (Eq.refl true)
theorem ldCH : Statement .ldCH := of_holds (Eq.refl true)
theorem ldCL : Statement .ldCL := of_holds (Eq.refl true)
theorem ldCMhl : Statement .ldCMhl := of_holds (Eq.refl true)
theorem ldCA : Statement .ldCA := of_holds (Eq.refl true)
theorem ldDB : Statement .ldDB := of_holds (Eq.refl true)
theorem ldDC : Statement .ldDC := of_holds (Eq.refl true)
theorem ldDD : Statement .ldDD := of_holds (Eq.refl true)
theorem ldDE : Statement .ldDE := of_holds (Eq.refl true)
theorem ldDH : Statement .ldDH := of_holds (Eq.refl true)
theorem ldDL : Statement .ldDL := of_holds (Eq.refl true)
theorem ldDMhl : Statement .ldDMhl := of_holds (Eq.refl true)
theorem ldDA : Statement .ldDA := of_holds (Eq.refl true)
theorem ldEB : Statement .ldEB := of_holds (Eq.refl true)
theorem ldEC : Statement .ldEC := of_holds (Eq.refl true)
theorem ldED : Statement .ldED := of_holds (Eq.refl true)
theorem ldEE : Statement .ldEE := of_holds (Eq.refl true)
theorem ldEH : Statement .ldEH := of_holds (Eq.refl true)
theorem ldEL : Statement .ldEL := of_holds (Eq.refl true)
theorem ldEMhl : Statement .ldEMhl := of_holds (Eq.refl true)
theorem ldEA : Statement .ldEA := of_holds (Eq.refl true)
theorem ldHB : Statement .ldHB := of_holds (Eq.refl true)
theorem ldHC : Statement .ldHC := of_holds (Eq.refl true)
theorem ldHD : Statement .ldHD := of_holds (Eq.refl true)
theorem ldHE : Statement .ldHE := of_holds (Eq.refl true)
theorem ldHH : Statement .ldHH := of_holds (Eq.refl true)
theorem ldHL : Statement .ldHL := of_holds (Eq.refl true)
theorem ldHMhl : Statement .ldHMhl := of_holds (Eq.refl true)
theorem ldHA : Statement .ldHA := of_holds (Eq.refl true)
theorem ldLB : Statement .ldLB := of_holds (Eq.refl true)
theorem ldLC : Statement .ldLC := of_holds (Eq.refl true)
theorem ldLD : Statement .ldLD := of_holds (Eq.refl true)
theorem ldLE : Statement .ldLE := of_holds (Eq.refl true)
theorem ldLH : Statement .ldLH := of_holds (Eq.refl true)
theorem ldLL : Statement .ldLL := of_holds (Eq.refl true)
theorem ldLMhl : Statement .ldLMhl := of_holds (Eq.refl true)
theorem ldLA : Statement .ldLA := of_holds (Eq.refl true)
theorem ldMhlB : Statement .ldMhlB := of_holds (Eq.refl true)
theorem ldMhlC : Statement .ldMhlC := of_holds (Eq.refl true)
theorem ldMhlD : Statement .ldMhlD := of_holds (Eq.refl true)
theorem ldMhlE : Statement .ldMhlE := of_holds (Eq.refl true)
theorem ldMhlH : Statement .ldMhlH := of_holds (Eq.refl true)
theorem ldMhlL : Statement .ldMhlL := of_holds (Eq.refl true)
theorem halt : Statement .halt := of_holds (Eq.refl true)
theorem ldMhlA : Statement .ldMhlA := of_holds (Eq.refl true)
theorem ldAB : Statement .ldAB := of_holds (Eq.refl true)
theorem ldAC : Statement .ldAC := of_holds (Eq.refl true)
theorem ldAD : Statement .ldAD := of_holds (Eq.refl true)
theorem ldAE : Statement .ldAE := of_holds (Eq.refl true)
theorem ldAH : Statement .ldAH := of_holds (Eq.refl true)
theorem ldAL : Statement .ldAL := of_holds (Eq.refl true)
theorem ldAMhl : Statement .ldAMhl := of_holds (Eq.refl true)
theorem ldAA : Statement .ldAA := of_holds (Eq.refl true)
theorem addAB : Statement .addAB := of_holds (Eq.refl true)
theorem addAC : Statement .addAC := of_holds (Eq.refl true)
theorem addAD : Statement .addAD := of_holds (Eq.refl true)
theorem addAE : Statement .addAE := of_holds (Eq.refl true)
theorem addAH : Statement .addAH := of_holds (Eq.refl true)
theorem addAL : Statement .addAL := of_holds (Eq.refl true)
theorem addAMhl : Statement .addAMhl := of_holds (Eq.refl true)
theorem addAA : Statement .addAA := of_holds (Eq.refl true)
theorem adcAB : Statement .adcAB := of_holds (Eq.refl true)
theorem adcAC : Statement .adcAC := of_holds (Eq.refl true)
theorem adcAD : Statement .adcAD := of_holds (Eq.refl true)
theorem adcAE : Statement .adcAE := of_holds (Eq.refl true)
theorem adcAH : Statement .adcAH := of_holds (Eq.refl true)
theorem adcAL : Statement .adcAL := of_holds (Eq.refl true)
theorem adcAMhl : Statement .adcAMhl := of_holds (Eq.refl true)
theorem adcAA : Statement .adcAA := of_holds (Eq.refl true)
theorem subAB : Statement .subAB := of_holds (Eq.refl true)
theorem subAC : Statement .subAC := of_holds (Eq.refl true)
theorem subAD : Statement .subAD := of_holds (Eq.refl true)
theorem subAE : Statement .subAE := of_holds (Eq.refl true)
theorem subAH : Statement .subAH := of_holds (Eq.refl true)
theorem subAL : Statement .subAL := of_holds (Eq.refl true)
theorem subAMhl : Statement .subAMhl := of_holds (Eq.refl true)
theorem subAA : Statement .subAA := of_holds (Eq.refl true)
theorem sbcAB : Statement .sbcAB := of_holds (Eq.refl true)
theorem sbcAC : Statement .sbcAC := of_holds (Eq.refl true)
theorem sbcAD : Statement .sbcAD := of_holds (Eq.refl true)
theorem sbcAE : Statement .sbcAE := of_holds (Eq.refl true)
theorem sbcAH : Statement .sbcAH := of_holds (Eq.refl true)
theorem sbcAL : Statement .sbcAL := of_holds (Eq.refl true)
theorem sbcAMhl : Statement .sbcAMhl := of_holds (Eq.refl true)
theorem sbcAA : Statement .sbcAA := of_holds (Eq.refl true)
theorem andAB : Statement .andAB := of_holds (Eq.refl true)
theorem andAC : Statement .andAC := of_holds (Eq.refl true)
theorem andAD : Statement .andAD := of_holds (Eq.refl true)
theorem andAE : Statement .andAE := of_holds (Eq.refl true)
theorem andAH : Statement .andAH := of_holds (Eq.refl true)
theorem andAL : Statement .andAL := of_holds (Eq.refl true)
theorem andAMhl : Statement .andAMhl := of_holds (Eq.refl true)
theorem andAA : Statement .andAA := of_holds (Eq.refl true)
theorem xorAB : Statement .xorAB := of_holds (Eq.refl true)
theorem xorAC : Statement .xorAC := of_holds (Eq.refl true)
theorem xorAD : Statement .xorAD := of_holds (Eq.refl true)
theorem xorAE : Statement .xorAE := of_holds (Eq.refl true)
theorem xorAH : Statement .xorAH := of_holds (Eq.refl true)
theorem xorAL : Statement .xorAL := of_holds (Eq.refl true)
theorem xorAMhl : Statement .xorAMhl := of_holds (Eq.refl true)
theorem xorAA : Statement .xorAA := of_holds (Eq.refl true)
theorem orAB : Statement .orAB := of_holds (Eq.refl true)
theorem orAC : Statement .orAC := of_holds (Eq.refl true)
theorem orAD : Statement .orAD := of_holds (Eq.refl true)
theorem orAE : Statement .orAE := of_holds (Eq.refl true)
theorem orAH : Statement .orAH := of_holds (Eq.refl true)
theorem orAL : Statement .orAL := of_holds (Eq.refl true)
theorem orAMhl : Statement .orAMhl := of_holds (Eq.refl true)
theorem orAA : Statement .orAA := of_holds (Eq.refl true)
theorem cpAB : Statement .cpAB := of_holds (Eq.refl true)
theorem cpAC : Statement .cpAC := of_holds (Eq.refl true)
theorem cpAD : Statement .cpAD := of_holds (Eq.refl true)
theorem cpAE : Statement .cpAE := of_holds (Eq.refl true)
theorem cpAH : Statement .cpAH := of_holds (Eq.refl true)
theorem cpAL : Statement .cpAL := of_holds (Eq.refl true)
theorem cpAMhl : Statement .cpAMhl := of_holds (Eq.refl true)
theorem cpAA : Statement .cpAA := of_holds (Eq.refl true)
theorem retNz : Statement .retNz := of_holds (Eq.refl true)
theorem popBc : Statement .popBc := of_holds (Eq.refl true)
theorem jpNzA16 : Statement .jpNzA16 := of_holds (Eq.refl true)
theorem jpA16 : Statement .jpA16 := of_holds (Eq.refl true)
theorem callNzA16 : Statement .callNzA16 := of_holds (Eq.refl true)
theorem pushBc : Statement .pushBc := of_holds (Eq.refl true)
theorem addAD8 : Statement .addAD8 := of_holds (Eq.refl true)
theorem rst00 : Statement .rst00 := of_holds (Eq.refl true)
theorem retZ : Statement .retZ := of_holds (Eq.refl true)
theorem ret : Statement .ret := of_holds (Eq.refl true)
theorem jpZA16 : Statement .jpZA16 := of_holds (Eq.refl true)
theorem callZA16 : Statement .callZA16 := of_holds (Eq.refl true)
theorem callA16 : Statement .callA16 := of_holds (Eq.refl true)
theorem adcAD8 : Statement .adcAD8 := of_holds (Eq.refl true)
theorem rst08 : Statement .rst08 := of_holds (Eq.refl true)
theorem retNc : Statement .retNc := of_holds (Eq.refl true)
theorem popDe : Statement .popDe := of_holds (Eq.refl true)
theorem jpNcA16 : Statement .jpNcA16 := of_holds (Eq.refl true)
theorem callNcA16 : Statement .callNcA16 := of_holds (Eq.refl true)
theorem pushDe : Statement .pushDe := of_holds (Eq.refl true)
theorem subAD8 : Statement .subAD8 := of_holds (Eq.refl true)
theorem rst10 : Statement .rst10 := of_holds (Eq.refl true)
theorem retC : Statement .retC := of_holds (Eq.refl true)
theorem reti : Statement .reti := of_holds (Eq.refl true)
theorem jpCA16 : Statement .jpCA16 := of_holds (Eq.refl true)
theorem callCA16 : Statement .callCA16 := of_holds (Eq.refl true)
theorem sbcAD8 : Statement .sbcAD8 := of_holds (Eq.refl true)
theorem rst18 : Statement .rst18 := of_holds (Eq.refl true)
theorem ldhMa8A : Statement .ldhMa8A := of_holds (Eq.refl true)
theorem popHl : Statement .popHl := of_holds (Eq.refl true)
theorem ldMcA : Statement .ldMcA := of_holds (Eq.refl true)
theorem pushHl : Statement .pushHl := of_holds (Eq.refl true)
theorem andAD8 : Statement .andAD8 := of_holds (Eq.refl true)
theorem rst20 : Statement .rst20 := of_holds (Eq.refl true)
theorem addSpR8 : Statement .addSpR8 := of_holds (Eq.refl true)
theorem jpHl : Statement .jpHl := of_holds (Eq.refl true)
theorem ldMa16A : Statement .ldMa16A := of_holds (Eq.refl true)
theorem xorAD8 : Statement .xorAD8 := of_holds (Eq.refl true)
theorem rst28 : Statement .rst28 := of_holds (Eq.refl true)
theorem ldhAMa8 : Statement .ldhAMa8 := of_holds (Eq.refl true)
theorem popAf : Statement .popAf := of_holds (Eq.refl true)
theorem ldAMc : Statement .ldAMc := of_holds (Eq.refl true)
theorem di : Statement .di := of_holds (Eq.refl true)
theorem pushAf : Statement .pushAf := of_holds (Eq.refl true)
theorem orAD8 : Statement .orAD8 := of_holds (Eq.refl true)
theorem rst30 : Statement .rst30 := of_holds (Eq.refl true)
theorem ldHlSpR8 : Statement .ldHlSpR8 := of_holds (Eq.refl true)
theorem ldSpHl : Statement .ldSpHl := of_holds (Eq.refl true)
theorem ldAMa16 : Statement .ldAMa16 := of_holds (Eq.refl true)
theorem ei : Statement .ei := of_holds (Eq.refl true)
theorem cpAD8 : Statement .cpAD8 := of_holds (Eq.refl true)
theorem rst38 : Statement .rst38 := of_holds (Eq.refl true)
theorem cbRlcB : Statement .cbRlcB := of_holds (Eq.refl true)
theorem cbRlcC : Statement .cbRlcC := of_holds (Eq.refl true)
theorem cbRlcD : Statement .cbRlcD := of_holds (Eq.refl true)
theorem cbRlcE : Statement .cbRlcE := of_holds (Eq.refl true)
theorem cbRlcH : Statement .cbRlcH := of_holds (Eq.refl true)
theorem cbRlcL : Statement .cbRlcL := of_holds (Eq.refl true)
theorem cbRlcMhl : Statement .cbRlcMhl := of_holds (Eq.refl true)
theorem cbRlcA : Statement .cbRlcA := of_holds (Eq.refl true)
theorem cbRrcB : Statement .cbRrcB := of_holds (Eq.refl true)
theorem cbRrcC : Statement .cbRrcC := of_holds (Eq.refl true)
theorem cbRrcD : Statement .cbRrcD := of_holds (Eq.refl true)
theorem cbRrcE : Statement .cbRrcE := of_holds (Eq.refl true)
theorem cbRrcH : Statement .cbRrcH := of_holds (Eq.refl true)
theorem cbRrcL : Statement .cbRrcL := of_holds (Eq.refl true)
theorem cbRrcMhl : Statement .cbRrcMhl := of_holds (Eq.refl true)
theorem cbRrcA : Statement .cbRrcA := of_holds (Eq.refl true)
theorem cbRlB : Statement .cbRlB := of_holds (Eq.refl true)
theorem cbRlC : Statement .cbRlC := of_holds (Eq.refl true)
theorem cbRlD : Statement .cbRlD := of_holds (Eq.refl true)
theorem cbRlE : Statement .cbRlE := of_holds (Eq.refl true)
theorem cbRlH : Statement .cbRlH := of_holds (Eq.refl true)
theorem cbRlL : Statement .cbRlL := of_holds (Eq.refl true)
theorem cbRlMhl : Statement .cbRlMhl := of_holds (Eq.refl true)
theorem cbRlA : Statement .cbRlA := of_holds (Eq.refl true)
theorem cbRrB : Statement .cbRrB := of_holds (Eq.refl true)
theorem cbRrC : Statement .cbRrC := of_holds (Eq.refl true)
theorem cbRrD : Statement .cbRrD := of_holds (Eq.refl true)
theorem cbRrE : Statement .cbRrE := of_holds (Eq.refl true)
theorem cbRrH : Statement .cbRrH := of_holds (Eq.refl true)
theorem cbRrL : Statement .cbRrL := of_holds (Eq.refl true)
theorem cbRrMhl : Statement .cbRrMhl := of_holds (Eq.refl true)
theorem cbRrA : Statement .cbRrA := of_holds (Eq.refl true)
theorem cbSlaB : Statement .cbSlaB := of_holds (Eq.refl true)
theorem cbSlaC : Statement .cbSlaC := of_holds (Eq.refl true)
theorem cbSlaD : Statement .cbSlaD := of_holds (Eq.refl true)
theorem cbSlaE : Statement .cbSlaE := of_holds (Eq.refl true)
theorem cbSlaH : Statement .cbSlaH := of_holds (Eq.refl true)
theorem cbSlaL : Statement .cbSlaL := of_holds (Eq.refl true)
theorem cbSlaMhl : Statement .cbSlaMhl := of_holds (Eq.refl true)
theorem cbSlaA : Statement .cbSlaA := of_holds (Eq.refl true)
theorem cbSraB : Statement .cbSraB := of_holds (Eq.refl true)
theorem cbSraC : Statement .cbSraC := of_holds (Eq.refl true)
theorem cbSraD : Statement .cbSraD := of_holds (Eq.refl true)
theorem cbSraE : Statement .cbSraE := of_holds (Eq.refl true)
theorem cbSraH : Statement .cbSraH := of_holds (Eq.refl true)
theorem cbSraL : Statement .cbSraL := of_holds (Eq.refl true)
theorem cbSraMhl : Statement .cbSraMhl := of_holds (Eq.refl true)
theorem cbSraA : Statement .cbSraA := of_holds (Eq.refl true)
theorem cbSwapB : Statement .cbSwapB := of_holds (Eq.refl true)
theorem cbSwapC : Statement .cbSwapC := of_holds (Eq.refl true)
theorem cbSwapD : Statement .cbSwapD := of_holds (Eq.refl true)
theorem cbSwapE : Statement .cbSwapE := of_holds (Eq.refl true)
theorem cbSwapH : Statement .cbSwapH := of_holds (Eq.refl true)
theorem cbSwapL : Statement .cbSwapL := of_holds (Eq.refl true)
theorem cbSwapMhl : Statement .cbSwapMhl := of_holds (Eq.refl true)
theorem cbSwapA : Statement .cbSwapA := of_holds (Eq.refl true)
theorem cbSrlB : Statement .cbSrlB := of_holds (Eq.refl true)
theorem cbSrlC : Statement .cbSrlC := of_holds (Eq.refl true)
theorem cbSrlD : Statement .cbSrlD := of_holds (Eq.refl true)
theorem cbSrlE : Statement .cbSrlE := of_holds (Eq.refl true)
theorem cbSrlH : Statement .cbSrlH := of_holds (Eq.refl true)
theorem cbSrlL : Statement .cbSrlL := of_holds (Eq.refl true)
theorem cbSrlMhl : Statement .cbSrlMhl := of_holds (Eq.refl true)
theorem cbSrlA : Statement .cbSrlA := of_holds (Eq.refl true)
theorem bit0B : Statement .bit0B := of_holds (Eq.refl true)
theorem bit0C : Statement .bit0C := of_holds (Eq.refl true)
theorem bit0D : Statement .bit0D := of_holds (Eq.refl true)
theorem bit0E : Statement .bit0E := of_holds (Eq.refl true)
theorem bit0H : Statement .bit0H := of_holds (Eq.refl true)
theorem bit0L : Statement .bit0L := of_holds (Eq.refl true)
theorem bit0Mhl : Statement .bit0Mhl := of_holds (Eq.refl true)
theorem bit0A : Statement .bit0A := of_holds (Eq.refl true)
theorem bit1B : Statement .bit1B := of_holds (Eq.refl true)
theorem bit1C : Statement .bit1C := of_holds (Eq.refl true)
theorem bit1D : Statement .bit1D := of_holds (Eq.refl true)
theorem bit1E : Statement .bit1E := of_holds (Eq.refl true)
theorem bit1H : Statement .bit1H := of_holds (Eq.refl true)
theorem bit1L : Statement .bit1L := of_holds (Eq.refl true)
theorem bit1Mhl : Statement .bit1Mhl := of_holds (Eq.refl true)
theorem bit1A : Statement .bit1A := of_holds (Eq.refl true)
theorem bit2B : Statement .bit2B := of_holds (Eq.refl true)
theorem bit2C : Statement .bit2C := of_holds (Eq.refl true)
theorem bit2D : Statement .bit2D := of_holds (Eq.refl true)
theorem bit2E : Statement .bit2E := of_holds (Eq.refl true)
theorem bit2H : Statement .bit2H := of_holds (Eq.refl true)
theorem bit2L : Statement .bit2L := of_holds (Eq.refl true)
theorem bit2Mhl : Statement .bit2Mhl := of_holds (Eq.refl true)
theorem bit2A : Statement .bit2A := of_holds (Eq.refl true)
theorem bit3B : Statement .bit3B := of_holds (Eq.refl true)
theorem bit3C : Statement .bit3C := of_holds (Eq.refl true)
theorem bit3D : Statement .bit3D := of_holds (Eq.refl true)
theorem bit3E : Statement .bit3E := of_holds (Eq.refl true)
theorem bit3H : Statement .bit3H := of_holds (Eq.refl true)
theorem bit3L : Statement .bit3L := of_holds (Eq.refl true)
theorem bit3Mhl : Statement .bit3Mhl := of_holds (Eq.refl true)
theorem bit3A : Statement .bit3A := of_holds (Eq.refl true)
theorem bit4B : Statement .bit4B := of_holds (Eq.refl true)
theorem bit4C : Statement .bit4C := of_holds (Eq.refl true)
theorem bit4D : Statement .bit4D := of_holds (Eq.refl true)
theorem bit4E : Statement .bit4E := of_holds (Eq.refl true)
theorem bit4H : Statement .bit4H := of_holds (Eq.refl true)
theorem bit4L : Statement .bit4L := of_holds (Eq.refl true)
theorem bit4Mhl : Statement .bit4Mhl := of_holds (Eq.refl true)
theorem bit4A : Statement .bit4A := of_holds (Eq.refl true)
theorem bit5B : Statement .bit5B := of_holds (Eq.refl true)
theorem bit5C : Statement .bit5C := of_holds (Eq.refl true)
theorem bit5D : Statement .bit5D := of_holds (Eq.refl true)
theorem bit5E : Statement .bit5E := of_holds (Eq.refl true)
theorem bit5H : Statement .bit5H := of_holds (Eq.refl true)
theorem bit5L : Statement .bit5L := of_holds (Eq.refl true)
theorem bit5Mhl : Statement .bit5Mhl := of_holds (Eq.refl true)
theorem bit5A : Statement .bit5A := of_holds (Eq.refl true)
theorem bit6B : Statement .bit6B := of_holds (Eq.refl true)
theorem bit6C : Statement .bit6C := of_holds (Eq.refl true)
theorem bit6D : Statement .bit6D := of_holds (Eq.refl true)
theorem bit6E : Statement .bit6E := of_holds (Eq.refl true)
theorem bit6H : Statement .bit6H := of_holds (Eq.refl true)
theorem bit6L : Statement .bit6L := of_holds (Eq.refl true)
theorem bit6Mhl : Statement .bit6Mhl := of_holds (Eq.refl true)
theorem bit6A : Statement .bit6A := of_holds (Eq.refl true)
theorem bit7B : Statement .bit7B := of_holds (Eq.refl true)
theorem bit7C : Statement .bit7C := of_holds (Eq.refl true)
theorem bit7D : Statement .bit7D := of_holds (Eq.refl true)
theorem bit7E : Statement .bit7E := of_holds (Eq.refl true)
theorem bit7H : Statement .bit7H := of_holds (Eq.refl true)
theorem bit7L : Statement .bit7L := of_holds (Eq.refl true)
theorem bit7Mhl : Statement .bit7Mhl := of_holds (Eq.refl true)
theorem bit7A : Statement .bit7A := of_holds (Eq.refl true)
theorem res0B : Statement .res0B := of_holds (Eq.refl true)
theorem res0C : Statement .res0C := of_holds (Eq.refl true)
theorem res0D : Statement .res0D := of_holds (Eq.refl true)
theorem res0E : Statement .res0E := of_holds (Eq.refl true)
theorem res0H : Statement .res0H := of_holds (Eq.refl true)
theorem res0L : Statement .res0L := of_holds (Eq.refl true)
theorem res0Mhl : Statement .res0Mhl := of_holds (Eq.refl true)
theorem res0A : Statement .res0A := of_holds (Eq.refl true)
theorem res1B : Statement .res1B := of_holds (Eq.refl true)
theorem res1C : Statement .res1C := of_holds (Eq.refl true)
theorem res1D : Statement .res1D := of_holds (Eq.refl true)
theorem res1E : Statement .res1E := of_holds (Eq.refl true)
theorem res1H : Statement .res1H := of_holds (Eq.refl true)
theorem res1L : Statement .res1L := of_holds (Eq.refl true)
theorem res1Mhl : Statement .res1Mhl := of_holds (Eq.refl true)
theorem res1A : Statement .res1A := of_holds (Eq.refl true)
theorem res2B : Statement .res2B := of_holds (Eq.refl true)
theorem res2C : Statement .res2C := of_holds (Eq.refl true)
theorem res2D : Statement .res2D := of_holds (Eq.refl true)
theorem res2E : Statement .res2E := of_holds (Eq.refl true)
theorem res2H : Statement .res2H := of_holds (Eq.refl true)
theorem res2L : Statement .res2L := of_holds (Eq.refl true)
theorem res2Mhl : Statement .res2Mhl := of_holds (Eq.refl true)
theorem res2A : Statement .res2A := of_holds (Eq.refl true)
theorem res3B : Statement .res3B := of_holds (Eq.refl true)
theorem res3C : Statement .res3C := of_holds (Eq.refl true)
theorem res3D : Statement .res3D := of_holds (Eq.refl true)
theorem res3E : Statement .res3E := of_holds (Eq.refl true)
theorem res3H : Statement .res3H := of_holds (Eq.refl true)
theorem res3L : Statement .res3L := of_holds (Eq.refl true)
theorem res3Mhl : Statement .res3Mhl := of_holds (Eq.refl true)
theorem res3A : Statement .res3A := of_holds (Eq.refl true)
theorem res4B : Statement .res4B := of_holds (Eq.refl true)
theorem res4C : Statement .res4C := of_holds (Eq.refl true)
theorem res4D : Statement .res4D := of_holds (Eq.refl true)
theorem res4E : Statement .res4E := of_holds (Eq.refl true)
theorem res4H : Statement .res4H := of_holds (Eq.refl true)
theorem res4L : Statement .res4L := of_holds (Eq.refl true)
theorem res4Mhl : Statement .res4Mhl := of_holds (Eq.refl true)
theorem res4A : Statement .res4A := of_holds (Eq.refl true)
theorem res5B : Statement .res5B := of_holds (Eq.refl true)
theorem res5C : Statement .res5C := of_holds (Eq.refl true)
theorem res5D : Statement .res5D := of_holds (Eq.refl true)
theorem res5E : Statement .res5E := of_holds (Eq.refl true)
theorem res5H : Statement .res5H := of_holds (Eq.refl true)
theorem res5L : Statement .res5L := of_holds (Eq.refl true)
theorem res5Mhl : Statement .res5Mhl := of_holds (Eq.refl true)
theorem res5A : Statement .res5A := of_holds (Eq.refl true)
theorem res6B : Statement .res6B := of_holds (Eq.refl true)
theorem res6C : Statement .res6C := of_holds (Eq.refl true)
theorem res6D : Statement .res6D := of_holds (Eq.refl true)
theorem res6E : Statement .res6E := of_holds (Eq.refl true)
theorem res6H : Statement .res6H := of_holds (Eq.refl true)
theorem res6L : Statement .res6L := of_holds (Eq.refl true)
theorem res6Mhl : Statement .res6Mhl := of_holds (Eq.refl true)
theorem res6A : Statement .res6A := of_holds (Eq.refl true)
theorem res7B : Statement .res7B := of_holds (Eq.refl true)
theorem res7C : Statement .res7C := of_holds (Eq.refl true)
theorem res7D : Statement .res7D := of_holds (Eq.refl true)
theorem res7E : Statement .res7E := of_holds (Eq.refl true)
theorem res7H : Statement .res7H := of_holds (Eq.refl true)
theorem res7L : Statement .res7L := of_holds (Eq.refl true)
theorem res7Mhl : Statement .res7Mhl := of_holds (Eq.refl true)
theorem res7A : Statement .res7A := of_holds (Eq.refl true)
theorem set0B : Statement .set0B := of_holds (Eq.refl true)
theorem set0C : Statement .set0C := of_holds (Eq.refl true)
theorem set0D : Statement .set0D := of_holds (Eq.refl true)
theorem set0E : Statement .set0E := of_holds (Eq.refl true)
theorem set0H : Statement .set0H := of_holds (Eq.refl true)
theorem set0L : Statement .set0L := of_holds (Eq.refl true)
theorem set0Mhl : Statement .set0Mhl := of_holds (Eq.refl true)
theorem set0A : Statement .set0A := of_holds (Eq.refl true)
theorem set1B : Statement .set1B := of_holds (Eq.refl true)
theorem set1C : Statement .set1C := of_holds (Eq.refl true)
theorem set1D : Statement .set1D := of_holds (Eq.refl true)
theorem set1E : Statement .set1E := of_holds (Eq.refl true)
theorem set1H : Statement .set1H := of_holds (Eq.refl true)
theorem set1L : Statement .set1L := of_holds (Eq.refl true)
theorem set1Mhl : Statement .set1Mhl := of_holds (Eq.refl true)
theorem set1A : Statement .set1A := of_holds (Eq.refl true)
theorem set2B : Statement .set2B := of_holds (Eq.refl true)
theorem set2C : Statement .set2C := of_holds (Eq.refl true)
theorem set2D : Statement .set2D := of_holds (Eq.refl true)
theorem set2E : Statement .set2E := of_holds (Eq.refl true)
theorem set2H : Statement .set2H := of_holds (Eq.refl true)
theorem set2L : Statement .set2L := of_holds (Eq.refl true)
theorem set2Mhl : Statement .set2Mhl := of_holds (Eq.refl true)
theorem set2A : Statement .set2A := of_holds (Eq.refl true)
theorem set3B : Statement .set3B := of_holds (Eq.refl true)
theorem set3C : Statement .set3C := of_holds (Eq.refl true)
theorem set3D : Statement .set3D := of_holds (Eq.refl true)
theorem set3E : Statement .set3E := of_holds (Eq.refl true)
theorem set3H : Statement .set3H := of_holds (Eq.refl true)
theorem set3L : Statement .set3L := of_holds (Eq.refl true)
theorem set3Mhl : Statement .set3Mhl := of_holds (Eq.refl true)
theorem set3A : Statement .set3A := of_holds (Eq.refl true)
theorem set4B : Statement .set4B := of_holds (Eq.refl true)
theorem set4C : Statement .set4C := of_holds (Eq.refl true)
theorem set4D : Statement .set4D := of_holds (Eq.refl true)
theorem set4E : Statement .set4E := of_holds (Eq.refl true)
theorem set4H : Statement .set4H := of_holds (Eq.refl true)
theorem set4L : Statement .set4L := of_holds (Eq.refl true)
theorem set4Mhl : Statement .set4Mhl := of_holds (Eq.refl true)
theorem set4A : Statement .set4A := of_holds (Eq.refl true)
theorem set5B : Statement .set5B := of_holds (Eq.refl true)
theorem set5C : Statement .set5C := of_holds (Eq.refl true)
theorem set5D : Statement .set5D := of_holds (Eq.refl true)
theorem set5E : Statement .set5E := of_holds (Eq.refl true)
theorem set5H : Statement .set5H := of_holds (Eq.refl true)
theorem set5L : Statement .set5L := of_holds (Eq.refl true)
theorem set5Mhl : Statement .set5Mhl := of_holds (Eq.refl true)
theorem set5A : Statement .set5A := of_holds (Eq.refl true)
theorem set6B : Statement .set6B := of_holds (Eq.refl true)
theorem set6C : Statement .set6C := of_holds (Eq.refl true)
theorem set6D : Statement .set6D := of_holds (Eq.refl true)
theorem set6E : Statement .set6E := of_holds (Eq.refl true)
theorem set6H : Statement .set6H := of_holds (Eq.refl true)
theorem set6L : Statement .set6L := of_holds (Eq.refl true)
theorem set6Mhl : Statement .set6Mhl := of_holds (Eq.refl true)
theorem set6A : Statement .set6A := of_holds (Eq.refl true)
theorem set7B : Statement .set7B := of_holds (Eq.refl true)
theorem set7C : Statement .set7C := of_holds (Eq.refl true)
theorem set7D : Statement .set7D := of_holds (Eq.refl true)
theorem set7E : Statement .set7E := of_holds (Eq.refl true)
theorem set7H : Statement .set7H := of_holds (Eq.refl true)
theorem set7L : Statement .set7L := of_holds (Eq.refl true)
theorem set7Mhl : Statement .set7Mhl := of_holds (Eq.refl true)
theorem set7A : Statement .set7A := of_holds (Eq.refl true)

end Sys2Proof.Laws.OpcodeShape
end

