-- ==== Sys2Proof/Tests/Slice0.lean ====
section
/-! SUPPORT. The model's own tests. Expected results come from spec/95_test_vectors.md (the vector named in each docstring)
or from the encodings of spec/30_encoding.md and spec/opcode_table.json written out bit by bit; then the witnesses of the
statements' hypotheses. -/

namespace Sys2Proof.Tests

open Sys2Proof.Machine Sys2Proof.Claims

/-- The outcome is a next state of which the test holds. -/
def answers (o : Out) (f : State → Bool) : Bool :=
  match o with
  | .next t => f t
  | .fault _ => false
  | .refused _ => false

theorem answers_next {o : Out} {f : State → Bool} (h : answers o f = true) : ∃ t, o = .next t ∧ f t = true := by
  cases o with
  | next t => exact ⟨t, rfl, h⟩
  | fault r => cases h
  | refused r => cases h

theorem answers_some {o : Out} (h : (answers o fun _ => true) = true) : ∃ t, o = .next t := by
  obtain ⟨t, h, -⟩ := answers_next h
  exact ⟨t, h⟩

/-- The state with PC set and bytes placed there. -/
def at_ (pc : Word) (bytes : List Byte) (s : State) : State := { s with pc := pc, mem := placeBytes bytes pc s.mem }

/-- The state with one byte of memory placed. -/
def cell (addr : Word) (v : Byte) (s : State) : State := { s with mem := placeBytes [v] addr s.mem }

/-! ## Well-formed instructions -/

/-- An operand byte too few (U2, U3) is refused. -/
theorem test_wf_too_few : (⟨.ldAD8, []⟩ : CodedInstr).wf = false ∧ (⟨.jpA16, [0x50]⟩ : CodedInstr).wf = false := by
  decide

/-- An operand byte too many (U1, CB, U2, U3) is refused. -/
theorem test_wf_too_many :
    (⟨.nop, [0x00]⟩ : CodedInstr).wf = false ∧ (⟨.cbSwapA, [0x00]⟩ : CodedInstr).wf = false
    ∧ (⟨.ldAD8, [0x05, 0x06]⟩ : CodedInstr).wf = false ∧ (⟨.jpA16, [0x50, 0x01, 0x00]⟩ : CodedInstr).wf = false := by
  decide

/-! ## Decoding: the bits of every row of spec/opcode_table.json (its `encoding` column), 64 bytes at a time -/

/-- Each byte decodes to the instruction beside it. -/
def decodes (prefixed : Bool) (rows : List (Nat × Instr)) : Bool :=
  rows.all fun r => decode (BitVec.ofNat 8 r.1) prefixed == some r.2

/-- R101: the bytes written out bit by bit. -/
theorem test_decode_00_to_3f :
  decodes false
    [(0b00000000, .nop), (0b00000001, .ldBcD16), (0b00000010, .ldMbcA), (0b00000011, .incBc), (0b00000100, .incB),
     (0b00000101, .decB), (0b00000110, .ldBD8), (0b00000111, .rlca), (0b00001000, .ldMa16Sp), (0b00001001, .addHlBc),
     (0b00001010, .ldAMbc), (0b00001011, .decBc), (0b00001100, .incC), (0b00001101, .decC), (0b00001110, .ldCD8),
     (0b00001111, .rrca)] &&
  decodes false
    [(0b00010000, .stop), (0b00010001, .ldDeD16), (0b00010010, .ldMdeA), (0b00010011, .incDe), (0b00010100, .incD),
     (0b00010101, .decD), (0b00010110, .ldDD8), (0b00010111, .rla), (0b00011000, .jrR8), (0b00011001, .addHlDe),
     (0b00011010, .ldAMde), (0b00011011, .decDe), (0b00011100, .incE), (0b00011101, .decE), (0b00011110, .ldED8),
     (0b00011111, .rra)] &&
  decodes false
    [(0b00100000, .jrNzR8), (0b00100001, .ldHlD16), (0b00100010, .ldMhliA), (0b00100011, .incHl), (0b00100100, .incH),
     (0b00100101, .decH), (0b00100110, .ldHD8), (0b00100111, .daa), (0b00101000, .jrZR8), (0b00101001, .addHlHl),
     (0b00101010, .ldAMhli), (0b00101011, .decHl), (0b00101100, .incL), (0b00101101, .decL), (0b00101110, .ldLD8),
     (0b00101111, .cpl)] &&
  decodes false
    [(0b00110000, .jrNcR8), (0b00110001, .ldSpD16), (0b00110010, .ldMhldA), (0b00110011, .incSp), (0b00110100, .incMhl),
     (0b00110101, .decMhl), (0b00110110, .ldMhlD8), (0b00110111, .scf), (0b00111000, .jrCR8), (0b00111001, .addHlSp),
     (0b00111010, .ldAMhld), (0b00111011, .decSp), (0b00111100, .incA), (0b00111101, .decA), (0b00111110, .ldAD8),
     (0b00111111, .ccf)] := by
  decide

/-- R102: the bytes written out bit by bit. -/
theorem test_decode_40_to_7f :
  decodes false
    [(0b01000000, .ldBB), (0b01000001, .ldBC), (0b01000010, .ldBD), (0b01000011, .ldBE), (0b01000100, .ldBH),
     (0b01000101, .ldBL), (0b01000110, .ldBMhl), (0b01000111, .ldBA), (0b01001000, .ldCB), (0b01001001, .ldCC),
     (0b01001010, .ldCD), (0b01001011, .ldCE), (0b01001100, .ldCH), (0b01001101, .ldCL), (0b01001110, .ldCMhl),
     (0b01001111, .ldCA)] &&
  decodes false
    [(0b01010000, .ldDB), (0b01010001, .ldDC), (0b01010010, .ldDD), (0b01010011, .ldDE), (0b01010100, .ldDH),
     (0b01010101, .ldDL), (0b01010110, .ldDMhl), (0b01010111, .ldDA), (0b01011000, .ldEB), (0b01011001, .ldEC),
     (0b01011010, .ldED), (0b01011011, .ldEE), (0b01011100, .ldEH), (0b01011101, .ldEL), (0b01011110, .ldEMhl),
     (0b01011111, .ldEA)] &&
  decodes false
    [(0b01100000, .ldHB), (0b01100001, .ldHC), (0b01100010, .ldHD), (0b01100011, .ldHE), (0b01100100, .ldHH),
     (0b01100101, .ldHL), (0b01100110, .ldHMhl), (0b01100111, .ldHA), (0b01101000, .ldLB), (0b01101001, .ldLC),
     (0b01101010, .ldLD), (0b01101011, .ldLE), (0b01101100, .ldLH), (0b01101101, .ldLL), (0b01101110, .ldLMhl),
     (0b01101111, .ldLA)] &&
  decodes false
    [(0b01110000, .ldMhlB), (0b01110001, .ldMhlC), (0b01110010, .ldMhlD), (0b01110011, .ldMhlE), (0b01110100, .ldMhlH),
     (0b01110101, .ldMhlL), (0b01110110, .halt), (0b01110111, .ldMhlA), (0b01111000, .ldAB), (0b01111001, .ldAC),
     (0b01111010, .ldAD), (0b01111011, .ldAE), (0b01111100, .ldAH), (0b01111101, .ldAL), (0b01111110, .ldAMhl),
     (0b01111111, .ldAA)] := by
  decide

/-- R103: the bytes written out bit by bit. -/
theorem test_decode_80_to_bf :
  decodes false
    [(0b10000000, .addAB), (0b10000001, .addAC), (0b10000010, .addAD), (0b10000011, .addAE), (0b10000100, .addAH),
     (0b10000101, .addAL), (0b10000110, .addAMhl), (0b10000111, .addAA), (0b10001000, .adcAB), (0b10001001, .adcAC),
     (0b10001010, .adcAD), (0b10001011, .adcAE), (0b10001100, .adcAH), (0b10001101, .adcAL), (0b10001110, .adcAMhl),
     (0b10001111, .adcAA)] &&
  decodes false
    [(0b10010000, .subAB), (0b10010001, .subAC), (0b10010010, .subAD), (0b10010011, .subAE), (0b10010100, .subAH),
     (0b10010101, .subAL), (0b10010110, .subAMhl), (0b10010111, .subAA), (0b10011000, .sbcAB), (0b10011001, .sbcAC),
     (0b10011010, .sbcAD), (0b10011011, .sbcAE), (0b10011100, .sbcAH), (0b10011101, .sbcAL), (0b10011110, .sbcAMhl),
     (0b10011111, .sbcAA)] &&
  decodes false
    [(0b10100000, .andAB), (0b10100001, .andAC), (0b10100010, .andAD), (0b10100011, .andAE), (0b10100100, .andAH),
     (0b10100101, .andAL), (0b10100110, .andAMhl), (0b10100111, .andAA), (0b10101000, .xorAB), (0b10101001, .xorAC),
     (0b10101010, .xorAD), (0b10101011, .xorAE), (0b10101100, .xorAH), (0b10101101, .xorAL), (0b10101110, .xorAMhl),
     (0b10101111, .xorAA)] &&
  decodes false
    [(0b10110000, .orAB), (0b10110001, .orAC), (0b10110010, .orAD), (0b10110011, .orAE), (0b10110100, .orAH),
     (0b10110101, .orAL), (0b10110110, .orAMhl), (0b10110111, .orAA), (0b10111000, .cpAB), (0b10111001, .cpAC),
     (0b10111010, .cpAD), (0b10111011, .cpAE), (0b10111100, .cpAH), (0b10111101, .cpAL), (0b10111110, .cpAMhl),
     (0b10111111, .cpAA)] := by
  decide

/-- R104: the bytes written out bit by bit. -/
theorem test_decode_c0_to_ff :
  decodes false
    [(0b11000000, .retNz), (0b11000001, .popBc), (0b11000010, .jpNzA16), (0b11000011, .jpA16), (0b11000100, .callNzA16),
     (0b11000101, .pushBc), (0b11000110, .addAD8), (0b11000111, .rst00), (0b11001000, .retZ), (0b11001001, .ret),
     (0b11001010, .jpZA16), (0b11001100, .callZA16), (0b11001101, .callA16), (0b11001110, .adcAD8), (0b11001111, .rst08),
     (0b11010000, .retNc)] &&
  decodes false
    [(0b11010001, .popDe), (0b11010010, .jpNcA16), (0b11010100, .callNcA16), (0b11010101, .pushDe), (0b11010110, .subAD8),
     (0b11010111, .rst10), (0b11011000, .retC), (0b11011001, .reti), (0b11011010, .jpCA16), (0b11011100, .callCA16),
     (0b11011110, .sbcAD8), (0b11011111, .rst18), (0b11100000, .ldhMa8A), (0b11100001, .popHl), (0b11100010, .ldMcA),
     (0b11100101, .pushHl)] &&
  decodes false
    [(0b11100110, .andAD8), (0b11100111, .rst20), (0b11101000, .addSpR8), (0b11101001, .jpHl), (0b11101010, .ldMa16A),
     (0b11101110, .xorAD8), (0b11101111, .rst28), (0b11110000, .ldhAMa8), (0b11110001, .popAf), (0b11110010, .ldAMc),
     (0b11110011, .di), (0b11110101, .pushAf), (0b11110110, .orAD8), (0b11110111, .rst30), (0b11111000, .ldHlSpR8),
     (0b11111001, .ldSpHl)] &&
  decodes false
    [(0b11111010, .ldAMa16), (0b11111011, .ei), (0b11111110, .cpAD8), (0b11111111, .rst38)] := by
  decide

/-- R105, group 0: the bytes written out bit by bit. -/
theorem test_decode_cb00_to_cb3f :
  decodes true
    [(0b00000000, .cbRlcB), (0b00000001, .cbRlcC), (0b00000010, .cbRlcD), (0b00000011, .cbRlcE), (0b00000100, .cbRlcH),
     (0b00000101, .cbRlcL), (0b00000110, .cbRlcMhl), (0b00000111, .cbRlcA), (0b00001000, .cbRrcB), (0b00001001, .cbRrcC),
     (0b00001010, .cbRrcD), (0b00001011, .cbRrcE), (0b00001100, .cbRrcH), (0b00001101, .cbRrcL), (0b00001110, .cbRrcMhl),
     (0b00001111, .cbRrcA)] &&
  decodes true
    [(0b00010000, .cbRlB), (0b00010001, .cbRlC), (0b00010010, .cbRlD), (0b00010011, .cbRlE), (0b00010100, .cbRlH),
     (0b00010101, .cbRlL), (0b00010110, .cbRlMhl), (0b00010111, .cbRlA), (0b00011000, .cbRrB), (0b00011001, .cbRrC),
     (0b00011010, .cbRrD), (0b00011011, .cbRrE), (0b00011100, .cbRrH), (0b00011101, .cbRrL), (0b00011110, .cbRrMhl),
     (0b00011111, .cbRrA)] &&
  decodes true
    [(0b00100000, .cbSlaB), (0b00100001, .cbSlaC), (0b00100010, .cbSlaD), (0b00100011, .cbSlaE), (0b00100100, .cbSlaH),
     (0b00100101, .cbSlaL), (0b00100110, .cbSlaMhl), (0b00100111, .cbSlaA), (0b00101000, .cbSraB), (0b00101001, .cbSraC),
     (0b00101010, .cbSraD), (0b00101011, .cbSraE), (0b00101100, .cbSraH), (0b00101101, .cbSraL), (0b00101110, .cbSraMhl),
     (0b00101111, .cbSraA)] &&
  decodes true
    [(0b00110000, .cbSwapB), (0b00110001, .cbSwapC), (0b00110010, .cbSwapD), (0b00110011, .cbSwapE), (0b00110100, .cbSwapH),
     (0b00110101, .cbSwapL), (0b00110110, .cbSwapMhl), (0b00110111, .cbSwapA), (0b00111000, .cbSrlB), (0b00111001, .cbSrlC),
     (0b00111010, .cbSrlD), (0b00111011, .cbSrlE), (0b00111100, .cbSrlH), (0b00111101, .cbSrlL), (0b00111110, .cbSrlMhl),
     (0b00111111, .cbSrlA)] := by
  decide

/-- R105, group 1: the bytes written out bit by bit. -/
theorem test_decode_cb40_to_cb7f :
  decodes true
    [(0b01000000, .bit0B), (0b01000001, .bit0C), (0b01000010, .bit0D), (0b01000011, .bit0E), (0b01000100, .bit0H),
     (0b01000101, .bit0L), (0b01000110, .bit0Mhl), (0b01000111, .bit0A), (0b01001000, .bit1B), (0b01001001, .bit1C),
     (0b01001010, .bit1D), (0b01001011, .bit1E), (0b01001100, .bit1H), (0b01001101, .bit1L), (0b01001110, .bit1Mhl),
     (0b01001111, .bit1A)] &&
  decodes true
    [(0b01010000, .bit2B), (0b01010001, .bit2C), (0b01010010, .bit2D), (0b01010011, .bit2E), (0b01010100, .bit2H),
     (0b01010101, .bit2L), (0b01010110, .bit2Mhl), (0b01010111, .bit2A), (0b01011000, .bit3B), (0b01011001, .bit3C),
     (0b01011010, .bit3D), (0b01011011, .bit3E), (0b01011100, .bit3H), (0b01011101, .bit3L), (0b01011110, .bit3Mhl),
     (0b01011111, .bit3A)] &&
  decodes true
    [(0b01100000, .bit4B), (0b01100001, .bit4C), (0b01100010, .bit4D), (0b01100011, .bit4E), (0b01100100, .bit4H),
     (0b01100101, .bit4L), (0b01100110, .bit4Mhl), (0b01100111, .bit4A), (0b01101000, .bit5B), (0b01101001, .bit5C),
     (0b01101010, .bit5D), (0b01101011, .bit5E), (0b01101100, .bit5H), (0b01101101, .bit5L), (0b01101110, .bit5Mhl),
     (0b01101111, .bit5A)] &&
  decodes true
    [(0b01110000, .bit6B), (0b01110001, .bit6C), (0b01110010, .bit6D), (0b01110011, .bit6E), (0b01110100, .bit6H),
     (0b01110101, .bit6L), (0b01110110, .bit6Mhl), (0b01110111, .bit6A), (0b01111000, .bit7B), (0b01111001, .bit7C),
     (0b01111010, .bit7D), (0b01111011, .bit7E), (0b01111100, .bit7H), (0b01111101, .bit7L), (0b01111110, .bit7Mhl),
     (0b01111111, .bit7A)] := by
  decide

/-- R105, group 2: the bytes written out bit by bit. -/
theorem test_decode_cb80_to_cbbf :
  decodes true
    [(0b10000000, .res0B), (0b10000001, .res0C), (0b10000010, .res0D), (0b10000011, .res0E), (0b10000100, .res0H),
     (0b10000101, .res0L), (0b10000110, .res0Mhl), (0b10000111, .res0A), (0b10001000, .res1B), (0b10001001, .res1C),
     (0b10001010, .res1D), (0b10001011, .res1E), (0b10001100, .res1H), (0b10001101, .res1L), (0b10001110, .res1Mhl),
     (0b10001111, .res1A)] &&
  decodes true
    [(0b10010000, .res2B), (0b10010001, .res2C), (0b10010010, .res2D), (0b10010011, .res2E), (0b10010100, .res2H),
     (0b10010101, .res2L), (0b10010110, .res2Mhl), (0b10010111, .res2A), (0b10011000, .res3B), (0b10011001, .res3C),
     (0b10011010, .res3D), (0b10011011, .res3E), (0b10011100, .res3H), (0b10011101, .res3L), (0b10011110, .res3Mhl),
     (0b10011111, .res3A)] &&
  decodes true
    [(0b10100000, .res4B), (0b10100001, .res4C), (0b10100010, .res4D), (0b10100011, .res4E), (0b10100100, .res4H),
     (0b10100101, .res4L), (0b10100110, .res4Mhl), (0b10100111, .res4A), (0b10101000, .res5B), (0b10101001, .res5C),
     (0b10101010, .res5D), (0b10101011, .res5E), (0b10101100, .res5H), (0b10101101, .res5L), (0b10101110, .res5Mhl),
     (0b10101111, .res5A)] &&
  decodes true
    [(0b10110000, .res6B), (0b10110001, .res6C), (0b10110010, .res6D), (0b10110011, .res6E), (0b10110100, .res6H),
     (0b10110101, .res6L), (0b10110110, .res6Mhl), (0b10110111, .res6A), (0b10111000, .res7B), (0b10111001, .res7C),
     (0b10111010, .res7D), (0b10111011, .res7E), (0b10111100, .res7H), (0b10111101, .res7L), (0b10111110, .res7Mhl),
     (0b10111111, .res7A)] := by
  decide

/-- R105, group 3: the bytes written out bit by bit. -/
theorem test_decode_cbc0_to_cbff :
  decodes true
    [(0b11000000, .set0B), (0b11000001, .set0C), (0b11000010, .set0D), (0b11000011, .set0E), (0b11000100, .set0H),
     (0b11000101, .set0L), (0b11000110, .set0Mhl), (0b11000111, .set0A), (0b11001000, .set1B), (0b11001001, .set1C),
     (0b11001010, .set1D), (0b11001011, .set1E), (0b11001100, .set1H), (0b11001101, .set1L), (0b11001110, .set1Mhl),
     (0b11001111, .set1A)] &&
  decodes true
    [(0b11010000, .set2B), (0b11010001, .set2C), (0b11010010, .set2D), (0b11010011, .set2E), (0b11010100, .set2H),
     (0b11010101, .set2L), (0b11010110, .set2Mhl), (0b11010111, .set2A), (0b11011000, .set3B), (0b11011001, .set3C),
     (0b11011010, .set3D), (0b11011011, .set3E), (0b11011100, .set3H), (0b11011101, .set3L), (0b11011110, .set3Mhl),
     (0b11011111, .set3A)] &&
  decodes true
    [(0b11100000, .set4B), (0b11100001, .set4C), (0b11100010, .set4D), (0b11100011, .set4E), (0b11100100, .set4H),
     (0b11100101, .set4L), (0b11100110, .set4Mhl), (0b11100111, .set4A), (0b11101000, .set5B), (0b11101001, .set5C),
     (0b11101010, .set5D), (0b11101011, .set5E), (0b11101100, .set5H), (0b11101101, .set5L), (0b11101110, .set5Mhl),
     (0b11101111, .set5A)] &&
  decodes true
    [(0b11110000, .set6B), (0b11110001, .set6C), (0b11110010, .set6D), (0b11110011, .set6E), (0b11110100, .set6H),
     (0b11110101, .set6L), (0b11110110, .set6Mhl), (0b11110111, .set6A), (0b11111000, .set7B), (0b11111001, .set7C),
     (0b11111010, .set7D), (0b11111011, .set7E), (0b11111100, .set7H), (0b11111101, .set7L), (0b11111110, .set7Mhl),
     (0b11111111, .set7A)] := by
  decide

/-- R106: the 11 unassigned first bytes are rejected by name, and a list that ends early is truncated. -/
theorem test_decode_rejects :
    (unassigned.all fun op => decode op false == none) && (decodeBytes [0xD3] matches .error (.unassignedOpcode 0xD3))
    && (decodeBytes [0xFD, 0x00] matches .error (.unassignedOpcode 0xFD)) && (decodeBytes [0xCB] matches .error .truncated)
    && (decodeBytes [0x3E] matches .error .truncated) && (decodeBytes [0xC3, 0x50] matches .error .truncated) := by
  decide

/-- spec/opcode_table.json numbers `byte0 ++ byte1` (R108): the host's words of SET 7,A, LD A,d8 and NOP. -/
theorem test_decode_table_word :
    decodeTableWord 16 0xCBFF = some .set7A ∧ decodeTableWord 16 0x3E00 = some .ldAD8 ∧ decodeTableWord 16 0x0000 = some .nop
    ∧ decodeTableWord 8 0x3C = some .incA ∧ decodeTableWord 16 0xD300 = none := by
  decide

/-- The host's word runs in the very next step after reset: DOC's LD A,d8 with an operand byte of zeros. -/
theorem test_with_fetch_word :
    answers (step (State.reset.withFetchWord 16 0x3E00)) fun t => t.a == 0x00 && t.pc == 0x0102 && t.cycles == 8 := by
  decide

/-! ## V-LD8: 8-bit loads -/

/-- spec/95_test_vectors.md LD8-1: LD B,C (R120). -/
theorem test_ld8_1 :
  answers (step (at_ 0x0100 [0x41] { State.reset with c := 0x5A }))
    fun t => t.b == 0x5A && t.c == 0x5A && t.pc == 0x0101 && t.zf && !t.nf && t.hf && t.cf && t.cycles == 4 := by
  decide

/-- spec/95_test_vectors.md LD8-3: LD E,(HL) (R121). -/
theorem test_ld8_3 :
  answers (step (cell 0xC123 0x9C (at_ 0x0100 [0x5E] { State.reset with h := 0xC1, l := 0x23 })))
    fun t => t.e == 0x9C && t.hl == 0xC123 && t.pc == 0x0101 && t.cycles == 8 := by
  decide

/-- spec/95_test_vectors.md LD8-5: LD (HL),H (R122). -/
theorem test_ld8_5 :
  answers (step (at_ 0x0100 [0x74] { State.reset with h := 0xC2, l := 0xC2 }))
    fun t => (t.read 0xC2C2).1 == 0xC2 && t.cycles == 8 := by
  decide

/-- spec/95_test_vectors.md LD8-6: LD (HL),A (R122). -/
theorem test_ld8_6 :
  answers (step (at_ 0x0100 [0x77] { State.reset with h := 0x20, l := 0x00, a := 0xAA }))
    fun t => (t.read 0x2000).1 == 0x00 && t.pc == 0x0101 && t.cycles == 8 := by
  decide

/-- spec/95_test_vectors.md LD8-7: LD B,d8 (R123). -/
theorem test_ld8_7 :
  answers (step (at_ 0x0100 [0x06, 0xFF] State.reset))
    fun t => t.b == 0xFF && t.pc == 0x0102 && t.cycles == 8 := by
  decide

/-- spec/95_test_vectors.md LD8-8: LD (HL),d8 (R124). -/
theorem test_ld8_8 :
  answers (step (at_ 0x0100 [0x36, 0x7E] { State.reset with h := 0xC0, l := 0x00 }))
    fun t => (t.read 0xC000).1 == 0x7E && t.pc == 0x0102 && t.cycles == 12 := by
  decide

/-- spec/95_test_vectors.md LD8-9: LD A,(BC) (R125). -/
theorem test_ld8_9 :
  answers (step (cell 0xC010 0x11 (at_ 0x0100 [0x0A] { State.reset with b := 0xC0, c := 0x10 })))
    fun t => t.a == 0x11 && t.pc == 0x0101 && t.cycles == 8 := by
  decide

/-- spec/95_test_vectors.md LD8-10: LD A,(DE) (R126). -/
theorem test_ld8_10 :
  answers (step (cell 0xC010 0x22 (at_ 0x0100 [0x1A] { State.reset with d := 0xE0, e := 0x10 })))
    fun t => t.a == 0x22 && t.cycles == 8 := by
  decide

/-- spec/95_test_vectors.md LD8-11: LD (BC),A (R127). -/
theorem test_ld8_11 :
  answers (step (at_ 0x0100 [0x02] { State.reset with b := 0xFF, c := 0x80, a := 0x33 }))
    fun t => (t.read 0xFF80).1 == 0x33 && t.cycles == 8 := by
  decide

/-- spec/95_test_vectors.md LD8-12: LD (DE),A (R128). -/
theorem test_ld8_12 :
  answers (step (at_ 0x0100 [0x12] { State.reset with d := 0xFD, e := 0xFF, a := 0x44 }))
    fun t => (t.read 0xDDFF).1 == 0x44 && (t.read 0xFDFF).1 == 0x44 && t.cycles == 8 := by
  decide

/-- spec/95_test_vectors.md LD8-13: LD A,(a16) (R129). -/
theorem test_ld8_13 :
  answers (step (cell 0xC345 0x99 (at_ 0x0100 [0xFA, 0x45, 0xC3] State.reset)))
    fun t => t.a == 0x99 && t.pc == 0x0103 && t.cycles == 16 := by
  decide

/-- spec/95_test_vectors.md LD8-14: LD (a16),A (R130). -/
theorem test_ld8_14 :
  answers (step (at_ 0x0100 [0xEA, 0x00, 0xA0] { State.reset with a := 0x5C }))
    fun t => (t.read 0xA000).1 == 0x5C && t.pc == 0x0103 && t.cycles == 16 := by
  decide

/-- spec/95_test_vectors.md LD8-17: LDH (a8),A (R132). -/
theorem test_ld8_17 :
  answers (step (at_ 0x0100 [0xE0, 0x0F] { State.reset with a := 0xFF }))
    fun t => t.ifBits == 0x1F && (t.read 0xFF0F).1 == 0xFF && t.cycles == 12 := by
  decide

/-- spec/95_test_vectors.md LD8-19: LDH A,(a8) (R131). -/
theorem test_ld8_19 :
  answers (step (at_ 0x0100 [0xF0, 0x00] State.reset))
    fun t => t.a == 0xFF && t.cycles == 12 := by
  decide

/-- spec/95_test_vectors.md LD8-20: LD A,(C) (R133). -/
theorem test_ld8_20 :
  answers (step (cell 0xFF85 0x12 (at_ 0x0100 [0xF2] { State.reset with c := 0x85 })))
    fun t => t.a == 0x12 && t.pc == 0x0101 && t.cycles == 8 := by
  decide

/-- spec/95_test_vectors.md LD8-21: LD (C),A (R134). -/
theorem test_ld8_21 :
  answers (step (at_ 0x0100 [0xE2] { State.reset with c := 0x86, a := 0x34 }))
    fun t => (t.read 0xFF86).1 == 0x34 && t.pc == 0x0101 && t.cycles == 8 := by
  decide

/-- spec/95_test_vectors.md LD8-23: LD (HL+),A (R135). -/
theorem test_ld8_23 :
  answers (step (at_ 0x0100 [0x22] { State.reset with h := 0xFF, l := 0xFF, a := 0x15 }))
    fun t => t.ie == 0x15 && t.hl == 0x0000 && t.cycles == 8 := by
  decide

/-- spec/95_test_vectors.md LD8-24: LD (HL-),A (R136). -/
theorem test_ld8_24 :
  answers (step (at_ 0x0100 [0x32] { State.reset with h := 0xC0, l := 0x00, a := 0x02 }))
    fun t => (t.read 0xC000).1 == 0x02 && t.hl == 0xBFFF && t.cycles == 8 := by
  decide

/-- spec/95_test_vectors.md LD8-25: LD A,(HL-) (R138). -/
theorem test_ld8_25 :
  answers (step (cell 0x0000 0xC3 (at_ 0x0100 [0x3A] { State.reset with h := 0x00, l := 0x00 })))
    fun t => t.a == 0xC3 && t.hl == 0xFFFF && t.cycles == 8 := by
  decide

/-- spec/95_test_vectors.md LD8-26: LD A,(HL+) (R137). -/
theorem test_ld8_26 :
  answers (step (at_ 0x0100 [0x2A] { State.reset with h := 0xFE, l := 0xA0 }))
    fun t => t.a == 0xFF && t.hl == 0xFEA1 && t.cycles == 8 := by
  decide

/-! ## V-LD16: 16-bit loads and stack -/

/-- spec/95_test_vectors.md LD16-1: LD BC,d16 (R152). -/
theorem test_ld16_1 :
  answers (step (at_ 0x0100 [0x01, 0x34, 0x12] State.reset))
    fun t => t.bc == 0x1234 && t.b == 0x12 && t.c == 0x34 && t.pc == 0x0103 && t.cycles == 12 := by
  decide

/-- spec/95_test_vectors.md LD16-4: LD (a16),SP (R153). -/
theorem test_ld16_4 :
  answers (step (at_ 0x0100 [0x08, 0xFF, 0xDF] { State.reset with sp := 0x1234 }))
    fun t => (t.read 0xDFFF).1 == 0x34 && (t.read 0xE000).1 == 0x12 && (t.read 0xC000).1 == 0x12 && t.cycles == 20 := by
  decide

/-- spec/95_test_vectors.md LD16-5: LD SP,HL (R154). -/
theorem test_ld16_5 :
  answers (step (at_ 0x0100 [0xF9] { State.reset with h := 0xCF, l := 0xFF }))
    fun t => t.sp == 0xCFFF && t.pc == 0x0101 && t.cycles == 8 := by
  decide

/-- spec/95_test_vectors.md LD16-7: LD HL,SP+r8 (R155). -/
theorem test_ld16_7 :
  answers (step (at_ 0x0100 [0xF8, 0xFF] { State.reset with sp := 0x0000 }))
    fun t => t.hl == 0xFFFF && !t.zf && !t.nf && !t.hf && !t.cf && t.cycles == 12 := by
  decide

/-- spec/95_test_vectors.md LD16-11: PUSH AF (R156). -/
theorem test_ld16_11 :
  answers (step (at_ 0x0100 [0xF5]
      { State.reset with sp := 0xFFFE, a := 0x12, zf := true, nf := false, hf := true, cf := false }))
    fun t => t.sp == 0xFFFC && (t.read 0xFFFD).1 == 0x12 && (t.read 0xFFFC).1 == 0xA0 && t.cycles == 16 := by
  decide

/-- spec/95_test_vectors.md LD16-12: POP AF (R158). -/
theorem test_ld16_12 :
  answers (step (cell 0xC001 0x9A (cell 0xC000 0xFF (at_ 0x0100 [0xF1] { State.reset with sp := 0xC000 }))))
    fun t => t.a == 0x9A && t.zf && t.nf && t.hf && t.cf && t.sp == 0xC002 && t.pc == 0x0101 && t.cycles == 12 := by
  decide

/-- spec/95_test_vectors.md LD16-15: PUSH DE (R156). -/
theorem test_ld16_15 :
  answers (step (at_ 0x0100 [0xD5] { State.reset with sp := 0x0001, d := 0xBE, e := 0xEF }))
    fun t => t.sp == 0xFFFF && t.ie == 0xEF && (t.read 0x0000).1 == 0x00 && t.cycles == 16 := by
  decide

/-- spec/95_test_vectors.md LD16-16: POP BC (R157). -/
theorem test_ld16_16 :
  answers (step (cell 0x0000 0x7E (at_ 0x0100 [0xC1] { State.reset with sp := 0xFFFF, ie := 0x1B })))
    fun t => t.bc == 0x7E1B && t.sp == 0x0001 && t.cycles == 12 := by
  decide

/-! ## V-ALU8: 8-bit arithmetic -/

/-- spec/95_test_vectors.md ALU8-1: ADD A,B (R172). -/
theorem test_alu8_1 :
  answers (step (at_ 0x0100 [0x80] { State.reset with a := 0x3A, b := 0xC6 }))
    fun t => t.a == 0x00 && t.zf && !t.nf && t.hf && t.cf && t.pc == 0x0101 && t.cycles == 4 := by
  decide

/-- spec/95_test_vectors.md ALU8-8: ADC A,d8 (R177). -/
theorem test_alu8_8 :
  answers (step (at_ 0x0100 [0xCE, 0xFF] { State.reset with a := 0x00, cf := true }))
    fun t => t.a == 0x00 && t.zf && !t.nf && t.hf && t.cf && t.cycles == 8 := by
  decide

/-- spec/95_test_vectors.md ALU8-12: SUB (HL) (R179). -/
theorem test_alu8_12 :
  answers (step (cell 0xC000 0x40 (at_ 0x0100 [0x96] { State.reset with a := 0x3E, h := 0xC0, l := 0x00 })))
    fun t => t.a == 0xFE && !t.zf && t.nf && !t.hf && t.cf && t.cycles == 8 := by
  decide

/-- spec/95_test_vectors.md ALU8-15: SBC A,d8 (R183). -/
theorem test_alu8_15 :
  answers (step (at_ 0x0100 [0xDE, 0xFF] { State.reset with a := 0x00, cf := true }))
    fun t => t.a == 0x00 && t.zf && t.nf && t.hf && t.cf && t.cycles == 8 := by
  decide

/-- spec/95_test_vectors.md ALU8-19: AND L (R184). -/
theorem test_alu8_19 :
  answers (step (at_ 0x0100 [0xA5] { State.reset with a := 0x5A, l := 0x3F }))
    fun t => t.a == 0x1A && !t.zf && !t.nf && t.hf && !t.cf && t.cycles == 4 := by
  decide

/-- spec/95_test_vectors.md ALU8-22: XOR d8 (R189). -/
theorem test_alu8_22 :
  answers (step (at_ 0x0100 [0xEE, 0x0F] { State.reset with a := 0xFF }))
    fun t => t.a == 0xF0 && !t.zf && !t.nf && !t.hf && !t.cf && t.cycles == 8 := by
  decide

/-- spec/95_test_vectors.md ALU8-24: OR d8 (R192). -/
theorem test_alu8_24 :
  answers (step (at_ 0x0100 [0xF6, 0x03] { State.reset with a := 0x5A }))
    fun t => t.a == 0x5B && !t.zf && !t.nf && !t.hf && !t.cf && t.cycles == 8 := by
  decide

/-- spec/95_test_vectors.md ALU8-27: CP (HL) (R194). -/
theorem test_alu8_27 :
  answers (step (cell 0xC000 0x40 (at_ 0x0100 [0xBE] { State.reset with a := 0x3C, h := 0xC0, l := 0x00 })))
    fun t => t.a == 0x3C && !t.zf && t.nf && !t.hf && t.cf && t.cycles == 8 := by
  decide

/-- spec/95_test_vectors.md ALU8-29: INC A (R196). -/
theorem test_alu8_29 :
  answers (step (at_ 0x0100 [0x3C] { State.reset with a := 0xFF, cf := true }))
    fun t => t.a == 0x00 && t.zf && !t.nf && t.hf && t.cf && t.cycles == 4 := by
  decide

/-- spec/95_test_vectors.md ALU8-31: INC (HL) (R197). -/
theorem test_alu8_31 :
  answers (step (cell 0xC000 0x7F (at_ 0x0100 [0x34] { State.reset with h := 0xC0, l := 0x00 })))
    fun t => (t.read 0xC000).1 == 0x80 && !t.zf && !t.nf && t.hf && t.cf && t.cycles == 12 := by
  decide

/-- spec/95_test_vectors.md ALU8-32: DEC A (R198). -/
theorem test_alu8_32 :
  answers (step (at_ 0x0100 [0x3D] { State.reset with a := 0x00, cf := true, zf := true, nf := false, hf := false }))
    fun t => t.a == 0xFF && !t.zf && t.nf && t.hf && t.cf && t.cycles == 4 := by
  decide

/-- spec/95_test_vectors.md ALU8-35: DEC (HL) (R199). -/
theorem test_alu8_35 :
  answers (step (cell 0xC000 0x00 (at_ 0x0100 [0x35] { State.reset with h := 0xC0, l := 0x00 })))
    fun t => (t.read 0xC000).1 == 0xFF && !t.zf && t.nf && t.hf && t.cf && t.cycles == 12 := by
  decide

/-- spec/95_test_vectors.md ALU8-38: DAA (R200). -/
theorem test_alu8_38 :
  answers (step (at_ 0x0100 [0x27] { State.reset with a := 0x99, nf := false, hf := true, cf := false, zf := false }))
    fun t => t.a == 0x9F && !t.zf && !t.nf && !t.hf && !t.cf && t.cycles == 4 := by
  decide

/-- spec/95_test_vectors.md ALU8-41: DAA (R200). -/
theorem test_alu8_41 :
  answers (step (at_ 0x0100 [0x27] { State.reset with a := 0x00, nf := true, hf := true, cf := true, zf := false }))
    fun t => t.a == 0x9A && !t.zf && t.nf && !t.hf && t.cf && t.cycles == 4 := by
  decide

/-- spec/95_test_vectors.md ALU8-43: CPL (R201). -/
theorem test_alu8_43 :
  answers (step (at_ 0x0100 [0x2F] { State.reset with a := 0x35, zf := true, cf := true, nf := false, hf := false }))
    fun t => t.a == 0xCA && t.zf && t.nf && t.hf && t.cf && t.cycles == 4 := by
  decide

/-- spec/95_test_vectors.md ALU8-44: SCF (R202). -/
theorem test_alu8_44 :
  answers (step (at_ 0x0100 [0x37] { State.reset with zf := true, nf := true, hf := true, cf := false }))
    fun t => t.zf && !t.nf && !t.hf && t.cf && t.cycles == 4 := by
  decide

/-- spec/95_test_vectors.md ALU8-46: CCF (R203). -/
theorem test_alu8_46 :
  answers (step (at_ 0x0100 [0x3F] { State.reset with zf := true, nf := false, hf := false, cf := false }))
    fun t => t.zf && !t.nf && !t.hf && t.cf && t.cycles == 4 := by
  decide

/-! ## V-ALU16: 16-bit arithmetic -/

/-- spec/95_test_vectors.md ALU16-2: ADD HL,HL (R210). -/
theorem test_alu16_2 :
  answers (step (at_ 0x0100 [0x29] { State.reset with h := 0x8A, l := 0x23, zf := false }))
    fun t => t.hl == 0x1446 && !t.zf && !t.nf && t.hf && t.cf && t.cycles == 8 := by
  decide

/-- spec/95_test_vectors.md ALU16-5: ADD HL,BC (R210). -/
theorem test_alu16_5 :
  answers (step (at_ 0x0100 [0x09]
      { State.reset with h := 0x00, l := 0x00, b := 0x00, c := 0x00, zf := false, hf := true, cf := true, nf := true }))
    fun t => t.hl == 0x0000 && !t.zf && !t.nf && !t.hf && !t.cf && t.cycles == 8 := by
  decide

/-- spec/95_test_vectors.md ALU16-7: INC BC (R211). -/
theorem test_alu16_7 :
  answers (step (at_ 0x0100 [0x03] { State.reset with b := 0xFF, c := 0xFF, zf := false }))
    fun t => t.bc == 0x0000 && !t.zf && !t.nf && t.hf && t.cf && t.cycles == 8 := by
  decide

/-- spec/95_test_vectors.md ALU16-10: DEC HL (R212). -/
theorem test_alu16_10 :
  answers (step (at_ 0x0100 [0x2B] { State.reset with h := 0x00, l := 0x00 }))
    fun t => t.hl == 0xFFFF && t.zf && !t.nf && t.hf && t.cf && t.cycles == 8 := by
  decide

/-- spec/95_test_vectors.md ALU16-13: ADD SP,r8 (R213). -/
theorem test_alu16_13 :
  answers (step (at_ 0x0100 [0xE8, 0xFF] { State.reset with sp := 0xD001 }))
    fun t => t.sp == 0xD000 && !t.zf && !t.nf && t.hf && t.cf && t.cycles == 16 := by
  decide

/-- spec/95_test_vectors.md ALU16-16: ADD SP,r8 (R213). -/
theorem test_alu16_16 :
  answers (step (at_ 0x0100 [0xE8, 0x80] { State.reset with sp := 0x0000 }))
    fun t => t.sp == 0xFF80 && !t.zf && !t.nf && !t.hf && !t.cf && t.cycles == 16 := by
  decide

/-! ## V-ROT: rotates, shifts and bits -/

/-- spec/95_test_vectors.md ROT-2: RLCA (R220). -/
theorem test_rot_2 :
  answers (step (at_ 0x0100 [0x07] { State.reset with a := 0x00, zf := true, cf := true }))
    fun t => t.a == 0x00 && !t.zf && !t.nf && !t.hf && !t.cf && t.cycles == 4 := by
  decide

/-- spec/95_test_vectors.md ROT-3: RRCA (R221). -/
theorem test_rot_3 :
  answers (step (at_ 0x0100 [0x0F] { State.reset with a := 0x3B, cf := false }))
    fun t => t.a == 0x9D && !t.zf && !t.nf && !t.hf && t.cf && t.cycles == 4 := by
  decide

/-- spec/95_test_vectors.md ROT-5: RLA (R222). -/
theorem test_rot_5 :
  answers (step (at_ 0x0100 [0x17] { State.reset with a := 0x80, cf := false, zf := false }))
    fun t => t.a == 0x00 && !t.zf && !t.nf && !t.hf && t.cf && t.cycles == 4 := by
  decide

/-- spec/95_test_vectors.md ROT-6: RRA (R223). -/
theorem test_rot_6 :
  answers (step (at_ 0x0100 [0x1F] { State.reset with a := 0x81, cf := false }))
    fun t => t.a == 0x40 && !t.zf && !t.nf && !t.hf && t.cf && t.cycles == 4 := by
  decide

/-- spec/95_test_vectors.md ROT-9: RLC A (R225). -/
theorem test_rot_9 :
  answers (step (at_ 0x0100 [0xCB, 0x07] { State.reset with a := 0x00, cf := true, zf := false }))
    fun t => t.a == 0x00 && t.zf && !t.nf && !t.hf && !t.cf && t.cycles == 8 := by
  decide

/-- spec/95_test_vectors.md ROT-10: RLC (HL) (R226). -/
theorem test_rot_10 :
  answers (step (cell 0xC000 0x80 (at_ 0x0100 [0xCB, 0x06] { State.reset with h := 0xC0, l := 0x00, cf := false })))
    fun t => (t.read 0xC000).1 == 0x01 && !t.zf && !t.nf && !t.hf && t.cf && t.cycles == 16 := by
  decide

/-- spec/95_test_vectors.md ROT-11: RRC C (R227). -/
theorem test_rot_11 :
  answers (step (at_ 0x0100 [0xCB, 0x09] { State.reset with c := 0x01, cf := false }))
    fun t => t.c == 0x80 && !t.zf && !t.nf && !t.hf && t.cf && t.cycles == 8 := by
  decide

/-- spec/95_test_vectors.md ROT-13: RL D (R229). -/
theorem test_rot_13 :
  answers (step (at_ 0x0100 [0xCB, 0x12] { State.reset with d := 0x80, cf := true }))
    fun t => t.d == 0x01 && !t.zf && !t.nf && !t.hf && t.cf && t.cycles == 8 := by
  decide

/-- spec/95_test_vectors.md ROT-15: RR (HL) (R232). -/
theorem test_rot_15 :
  answers (step (cell 0xC000 0x8A (at_ 0x0100 [0xCB, 0x1E] { State.reset with h := 0xC0, l := 0x00, cf := true })))
    fun t => (t.read 0xC000).1 == 0xC5 && !t.zf && !t.nf && !t.hf && !t.cf && t.cycles == 16 := by
  decide

/-- spec/95_test_vectors.md ROT-16: SLA H (R233). -/
theorem test_rot_16 :
  answers (step (at_ 0x0100 [0xCB, 0x24] { State.reset with h := 0xFF, cf := false }))
    fun t => t.h == 0xFE && !t.zf && !t.nf && !t.hf && t.cf && t.cycles == 8 := by
  decide

/-- spec/95_test_vectors.md ROT-18: SRA L (R235). -/
theorem test_rot_18 :
  answers (step (at_ 0x0100 [0xCB, 0x2D] { State.reset with l := 0x8A, cf := false }))
    fun t => t.l == 0xC5 && !t.zf && !t.nf && !t.hf && !t.cf && t.cycles == 8 := by
  decide

/-- spec/95_test_vectors.md ROT-20: SWAP A (R237). -/
theorem test_rot_20 :
  answers (step (at_ 0x0100 [0xCB, 0x37] { State.reset with a := 0xF1, cf := true }))
    fun t => t.a == 0x1F && !t.zf && !t.nf && !t.hf && !t.cf && t.cycles == 8 := by
  decide

/-- spec/95_test_vectors.md ROT-23: SRL A (R239). -/
theorem test_rot_23 :
  answers (step (at_ 0x0100 [0xCB, 0x3F] { State.reset with a := 0xFF, cf := false }))
    fun t => t.a == 0x7F && !t.zf && !t.nf && !t.hf && t.cf && t.cycles == 8 := by
  decide

/-- spec/95_test_vectors.md ROT-26: BIT 4,L (R241). -/
theorem test_rot_26 :
  answers (step (at_ 0x0100 [0xCB, 0x65] { State.reset with l := 0xEF, cf := false, nf := true }))
    fun t => t.l == 0xEF && t.zf && !t.nf && t.hf && !t.cf && t.cycles == 8 := by
  decide

/-- spec/95_test_vectors.md ROT-28: BIT 1,(HL) (R242). -/
theorem test_rot_28 :
  answers (step (cell 0xC000 0xFE (at_ 0x0100 [0xCB, 0x4E] { State.reset with h := 0xC0, l := 0x00, cf := true })))
    fun t => (t.read 0xC000).1 == 0xFE && !t.zf && !t.nf && t.hf && t.cf && t.cycles == 16 := by
  decide

/-- spec/95_test_vectors.md ROT-29: RES 7,A (R243). -/
theorem test_rot_29 :
  answers (step (at_ 0x0100 [0xCB, 0xBF] { State.reset with a := 0xFF, zf := true, nf := true, hf := true, cf := true }))
    fun t => t.a == 0x7F && t.zf && t.nf && t.hf && t.cf && t.cycles == 8 := by
  decide

/-- spec/95_test_vectors.md ROT-30: RES 3,(HL) (R244). -/
theorem test_rot_30 :
  answers (step (cell 0xC000 0xFF (at_ 0x0100 [0xCB, 0x9E] { State.reset with h := 0xC0, l := 0x00 })))
    fun t => (t.read 0xC000).1 == 0xF7 && t.zf && !t.nf && t.hf && t.cf && t.cycles == 16 := by
  decide

/-- spec/95_test_vectors.md ROT-31: SET 0,B (R245). -/
theorem test_rot_31 :
  answers (step (at_ 0x0100 [0xCB, 0xC0] { State.reset with b := 0x00, zf := true, nf := true, hf := true, cf := true }))
    fun t => t.b == 0x01 && t.zf && t.nf && t.hf && t.cf && t.cycles == 8 := by
  decide

/-- spec/95_test_vectors.md ROT-33: SET 7,(HL) (R246). -/
theorem test_rot_33 :
  answers (step (at_ 0x0100 [0xCB, 0xFE] { State.reset with h := 0x40, l := 0x00 }))
    fun t => (t.read 0x4000).1 == 0x00 && t.pc == 0x0102 && t.cycles == 16 := by
  decide

/-! ## V-CF: control transfer -/

/-- spec/95_test_vectors.md CF-1: JP a16 (R250). -/
theorem test_cf_1 :
  answers (step (at_ 0x0100 [0xC3, 0x50, 0x01] State.reset))
    fun t => t.pc == 0x0150 && t.cycles == 16 := by
  decide

/-- spec/95_test_vectors.md CF-2: JP Z,a16 (R251). -/
theorem test_cf_2 :
  answers (step (at_ 0x0100 [0xCA, 0x00, 0x02] { State.reset with zf := true }))
    fun t => t.pc == 0x0200 && t.cycles == 16 := by
  decide

/-- spec/95_test_vectors.md CF-5: JP C,a16 (R251). -/
theorem test_cf_5 :
  answers (step (at_ 0x0100 [0xDA, 0x34, 0x12] { State.reset with cf := false }))
    fun t => t.pc == 0x0103 && t.cycles == 12 := by
  decide

/-- spec/95_test_vectors.md CF-6: JP HL (R252). -/
theorem test_cf_6 :
  answers (step (at_ 0x0100 [0xE9] { State.reset with h := 0xC0, l := 0x00 }))
    fun t => t.pc == 0xC000 && t.cycles == 4 := by
  decide

/-- spec/95_test_vectors.md CF-8: JR r8 (R253). -/
theorem test_cf_8 :
  answers (step (at_ 0x0150 [0x18, 0xFB] State.reset))
    fun t => t.pc == 0x014D && t.cycles == 12 := by
  decide

/-- spec/95_test_vectors.md CF-10: JR r8 (R253). -/
theorem test_cf_10 :
  answers (step (at_ 0x0010 [0x18, 0x80] State.reset))
    fun t => t.pc == 0xFF92 && t.cycles == 12 := by
  decide

/-- spec/95_test_vectors.md CF-12: JR NZ,r8 (R254). -/
theorem test_cf_12 :
  answers (step (at_ 0x0200 [0x20, 0xFA] { State.reset with zf := false }))
    fun t => t.pc == 0x01FC && t.cycles == 12 := by
  decide

/-- spec/95_test_vectors.md CF-13: JR NZ,r8 (R254). -/
theorem test_cf_13 :
  answers (step (at_ 0x0200 [0x20, 0xFA] { State.reset with zf := true }))
    fun t => t.pc == 0x0202 && t.cycles == 8 := by
  decide

/-- spec/95_test_vectors.md CF-16: CALL a16 (R255). -/
theorem test_cf_16 :
  answers (step (at_ 0x0100 [0xCD, 0x00, 0x02] { State.reset with sp := 0xFFFE }))
    fun t => t.pc == 0x0200 && t.sp == 0xFFFC && (t.read 0xFFFD).1 == 0x01 && (t.read 0xFFFC).1 == 0x03 && t.cycles == 24 := by
  decide

/-- spec/95_test_vectors.md CF-17: CALL C,a16 (R256). -/
theorem test_cf_17 :
  answers (step (at_ 0x0100 [0xDC, 0x00, 0x02] { State.reset with sp := 0xD000, cf := false }))
    fun t => t.pc == 0x0103 && t.sp == 0xD000 && t.cycles == 12 := by
  decide

/-- spec/95_test_vectors.md CF-18: CALL C,a16 (R256). -/
theorem test_cf_18 :
  answers (step (at_ 0x0100 [0xDC, 0x00, 0x02] { State.reset with sp := 0xD000, cf := true }))
    fun t => t.pc == 0x0200 && t.sp == 0xCFFE && (t.read 0xCFFF).1 == 0x01 && (t.read 0xCFFE).1 == 0x03 && t.cycles == 24 := by
  decide

/-- spec/95_test_vectors.md CF-20: RET (R257). -/
theorem test_cf_20 :
  answers (step (cell 0xC001 0x01 (cell 0xC000 0x03 (at_ 0x0100 [0xC9] { State.reset with sp := 0xC000 }))))
    fun t => t.pc == 0x0103 && t.sp == 0xC002 && t.cycles == 16 := by
  decide

/-- spec/95_test_vectors.md CF-21: RET Z (R258). -/
theorem test_cf_21 :
  answers (step (cell 0xC001 0x01 (cell 0xC000 0x03 (at_ 0x0100 [0xC8] { State.reset with sp := 0xC000, zf := true }))))
    fun t => t.pc == 0x0103 && t.sp == 0xC002 && t.cycles == 20 := by
  decide

/-- spec/95_test_vectors.md CF-22: RET NZ (R258). -/
theorem test_cf_22 :
  answers (step (cell 0xC001 0x01 (cell 0xC000 0x03 (at_ 0x0100 [0xC0] { State.reset with sp := 0xC000, zf := true }))))
    fun t => t.pc == 0x0101 && t.sp == 0xC000 && t.cycles == 8 := by
  decide

/-- spec/95_test_vectors.md CF-23: RETI (R259). -/
theorem test_cf_23 :
  answers (step (cell 0xC001 0x01 (cell 0xC000 0x50 (at_ 0x0100 [0xD9] { State.reset with sp := 0xC000, ime := false }))))
    fun t => t.pc == 0x0150 && t.sp == 0xC002 && t.ime && t.cycles == 16 := by
  decide

/-- spec/95_test_vectors.md CF-25: RST 0x38 (R260). -/
theorem test_cf_25 :
  answers (step (at_ 0x7FFF [0xFF] { State.reset with sp := 0xD000 }))
    fun t => t.pc == 0x0038 && t.sp == 0xCFFE && (t.read 0xCFFF).1 == 0x80 && (t.read 0xCFFE).1 == 0x00 && t.cycles == 16 := by
  decide

/-! ## Single steps of the traces V-CTL and V-INT -/

/-- CTL-1, step 1: EI arms the latch; IME is still 0. -/
theorem test_ctl_1_ei :
    answers (step (at_ 0x0100 [0xFB] { State.reset with ie := 0x01, ifBits := 1, sp := 0xD000 }))
      fun t => t.pc == 0x0101 && !t.ime && t.eiPending && t.sp == 0xD000 && t.cycles == 4 := by
  decide

/-- CTL-1, step 2: the deferred enable takes effect after the instruction that follows EI. -/
theorem test_ctl_1_nop :
    answers (step { at_ 0x0101 [0x00] { State.reset with ie := 0x01, ifBits := 1, sp := 0xD000 } with eiPending := true })
      fun t => t.pc == 0x0102 && t.ime && !t.eiPending && t.sp == 0xD000 := by
  decide

/-- CTL-2, step 2: DI cancels the deferred enable. -/
theorem test_ctl_2_di :
    answers (step { at_ 0x0101 [0xF3] State.reset with eiPending := true })
      fun t => t.pc == 0x0102 && !t.ime && !t.eiPending && t.cycles == 4 := by
  decide

/-- CTL-4, step 1: HALT with nothing pending. -/
theorem test_ctl_4_halt :
    answers (step (at_ 0x0100 [0x76] { State.reset with ie := 0x04 }))
      fun t => t.pc == 0x0101 && t.halted && !t.haltBug && t.cycles == 4 := by
  decide

/-- CTL-4, step 4: the host's Timer request wakes the engine although IME is 0. -/
theorem test_ctl_4_wake :
    answers (step (at_ 0x0101 [0x3C] { State.reset with ie := 0x04, halted := true, host := [[.request .timer]] }))
      fun t => t.pc == 0x0102 && !t.halted && t.a == 0x02 && (t.read 0xFF0F).1 == 0xE4 := by
  decide

/-- CTL-6, step 1: HALT with IME 0 and a source pending arms the HALT bug. -/
theorem test_ctl_6_halt :
    answers (step (at_ 0x0100 [0x76] { State.reset with ie := 0x01, ifBits := 1 }))
      fun t => t.pc == 0x0101 && !t.halted && t.haltBug := by
  decide

/-- CTL-8, step 2: a prefixed instruction under the HALT bug. -/
theorem test_ctl_8_prefixed :
    answers (step { at_ 0x0101 [0xCB, 0x07] { State.reset with a := 0x80, cf := false } with haltBug := true })
      fun t => t.pc == 0x0102 && !t.haltBug && t.a == 0x01 && !t.zf && t.cf && t.cycles == 8 := by
  decide

/-- CTL-9, step 2: a three-byte instruction under the HALT bug takes its operand from its own bytes. -/
theorem test_ctl_9_jump :
    answers (step { at_ 0x0101 [0xC3, 0x50, 0x01] State.reset with haltBug := true })
      fun t => t.pc == 0x50C3 && !t.haltBug && t.cycles == 16 := by
  decide

/-- CTL-11: an unassigned opcode raises the fatal condition and nothing else. -/
theorem test_ctl_11_unassigned :
    step (at_ 0x0100 [0xD3] State.reset)
      = .next { at_ 0x0100 [0xD3] State.reset with fatal := some (.unassignedOpcode 0xD3) } := by
  rfl

/-- CTL-12: STOP under the default raises the fatal condition. -/
theorem test_ctl_12_stop :
    step (at_ 0x0100 [0x10, 0x00] State.reset)
      = .next { at_ 0x0100 [0x10, 0x00] State.reset with fatal := some .stopUnmodelled } := by
  rfl

/-- INT-1, step 1: the first source is dispatched, its bit alone cleared, PC pushed. -/
theorem test_int_1_dispatch :
    answers (step { State.reset with ie := 0x1F, ifBits := 0b00101, ime := true, sp := 0xD000 }) fun t =>
      t.pc == 0x0040 && !t.ime && t.sp == 0xCFFE && (t.read 0xFF0F).1 == 0xE4 && (t.read 0xCFFF).1 == 0x01
        && (t.read 0xCFFE).1 == 0x00 && t.cycles == 20 := by
  decide

/-- INT-3: the source is chosen before the push overwrites IE. -/
theorem test_int_3_dispatch :
    answers (step { State.reset with ie := 0x1F, ifBits := 0b10000, ime := true, sp := 0x0001 }) fun t =>
      t.pc == 0x0060 && t.sp == 0xFFFF && t.ie == 0x00 && (t.read 0xFF0F).1 == 0xE0 := by
  decide

/-! ## The bus and the timer: V-MEM, V-SER, V-TIM -/

/-- MEM-1 to MEM-11: what a read returns after the write. -/
theorem test_mem :
    [(0xA123#16, 0x11#8, 0x11#8), (0xC123, 0x22, 0x22), (0xE124, 0x33, 0x33), (0xDDFF, 0x5E, 0x5E), (0xFE10, 0x44, 0x44),
     (0xFEA5, 0x55, 0xFF), (0xFF00, 0x66, 0xFF), (0xFF03, 0x67, 0xFF), (0xFF10, 0x68, 0xFF), (0xFF7F, 0x69, 0xFF),
     (0xFF08, 0x01, 0xFF), (0xFF0E, 0x01, 0xFF), (0x0000, 0x99, 0x00), (0x7FFF, 0x9A, 0x00), (0xFF80, 0x77, 0x77),
     (0xFFFE, 0x78, 0x78), (0xFF0F, 0xFF, 0xFF), (0xFF0F, 0x00, 0xE0), (0xFFFF, 0xE5, 0xE5), (0xFF05, 0x12, 0x12),
     (0xFF06, 0x34, 0x34), (0xFF07, 0xFD, 0x05), (0xFF01, 0x41, 0x41)].all
      fun x => ((State.reset.write x.1 x.2.1).read x.1).1 == x.2.2 := by
  decide

/-- MEM-2 to MEM-4: the other address of the byte; FE00 is no echo of DE00. -/
theorem test_mem_echo :
    ((State.reset.write 0xC123 0x22).read 0xE123).1 = 0x22 ∧ ((State.reset.write 0xE124 0x33).read 0xC124).1 = 0x33
    ∧ ((State.reset.write 0xDDFF 0x5E).read 0xFDFF).1 = 0x5E ∧ ((State.reset.write 0xDE00 0x5E).read 0xFE00).1 = 0x00 := by
  decide

/-- MEM-17: the collaborator's calls; the block stores nothing. -/
theorem test_mem_ppu :
    (State.reset.write 0x8000 0x12).ppu = [⟨0, .writeVram 0 0x12⟩] ∧ (State.reset.write 0x8000 0x12).mem = []
    ∧ (State.reset.write 0xFF40 0x34).ppu = [⟨0, .writeRegister 0xFF40 0x34⟩] := by
  decide

/-- SER-1: a transfer. -/
theorem test_ser_1 :
    State.write { State.reset with sb := 0x41 } 0xFF02 0x81 = { State.reset with sb := 0x41, sc := 0x01, out := [0x41] } := by
  decide

/-- SER-4: the transfer requests the Serial interrupt where it is wired. -/
theorem test_ser_4 :
    (State.write { State.reset with sb := 0x41, params := { serialIrqWired := true } } 0xFF02 0x81).ifBits = 0b01000 := by
  decide

/-- The timer of the V-TIM rows. -/
def timer (counter : BitVec 16) (tima tma : Byte) (tac : BitVec 3) (prevBit : Bool) (reload : Option Nat) : State :=
  { State.reset with counter := counter, tima := tima, tma := tma, tac := tac, prevBit := prevBit, reload := reload }

/-- TIM-1, ticks 1 and 5: overflow, then the reload and the request four ticks later. -/
theorem test_tim_1 :
    (timer 0x000F 0xFF 0xAB 5 true none).timerTick = (false, timer 0x0010 0x00 0xAB 5 false (some 4))
    ∧ (timer 0x0013 0x00 0xAB 5 false (some 1)).timerTick = (true, timer 0x0014 0xAB 0xAB 5 false none) := by
  decide

/-- TIM-2, TIM-3, TIM-8: writes of DIV. -/
theorem test_tim_div :
    (timer 0x0008 0x10 0x00 5 true none).write 0xFF04 0x5A = timer 0 0x11 0x00 5 false none
    ∧ (timer 0x0007 0x10 0x00 5 false none).write 0xFF04 0x00 = timer 0 0x10 0x00 5 false none
    ∧ (timer 0x0008 0xFF 0x77 5 true none).write 0xFF04 0x00 = timer 0 0x00 0x77 5 false (some 4) := by
  decide

/-- TIM-4 to TIM-7: writes of TAC. -/
theorem test_tim_tac :
    (timer 0x0008 0x10 0x00 5 true none).write 0xFF07 0x01 = timer 0x0008 0x11 0x00 1 false none
    ∧ (timer 0x0008 0x10 0x00 5 true none).write 0xFF07 0x04 = timer 0x0008 0x11 0x00 4 false none
    ∧ (timer 0x0088 0x10 0x00 5 true none).write 0xFF07 0xFF = timer 0x0088 0x10 0x00 7 true none
    ∧ (timer 0x0008 0x10 0x00 0 false none).write 0xFF07 0x05 = timer 0x0008 0x10 0x00 5 true none := by
  decide

/-- TIM-9 and TIM-14: a write of TIMA cancels the reload; an edge in the reload tick increments the value loaded. -/
theorem test_tim_reload :
    (timer 0x0012 0x00 0x77 5 false (some 3)).write 0xFF05 0x55 = timer 0x0012 0x55 0x77 5 false none
    ∧ (timer 0x000F 0x00 0xF0 5 true (some 1)).timerTick = (true, timer 0x0010 0xF1 0xF0 5 false none) := by
  decide

/-! ## Witnesses: for every statement with hypotheses, a concrete state and operands that meet them together -/

/-- The statements that name a default cost: `CYCLES` is at its default after reset. -/
theorem witness_default_costs : State.reset.params.costs = [] := rfl

/-- PushThenPopRestores, the stack at both ends of each RAM region and of the echo. -/
theorem witness_push_then_pop :
    State.reset.mem.wf ∧ ∀ sp ∈ [0xFFFE, 0xFFFF, 0xFF82, 0xA002, 0xC001, 0xE001, 0xFE00, 0xFE02, 0xFEA0],
      PlainRam (BitVec.ofNat 16 sp - 1) ∧ PlainRam (BitVec.ofNat 16 sp - 2) := by
  refine ⟨⟨by simp [State.reset], by simp [State.reset]⟩, ?_⟩
  unfold PlainRam
  decide +kernel

/-- SubtractAndCompare, LogicalOperations, PrefixedRotates, PrefixedShiftsAndSwap: each operation named. -/
theorem witness_operations :
    (∀ op ∈ [AluOp.sub, .sbc, .cp], op = .sub ∨ op = .sbc ∨ op = .cp)
    ∧ (∀ op ∈ [AluOp.and, .xor, .or], op = .and ∨ op = .xor ∨ op = .or)
    ∧ (∀ op ∈ [RotOp.rlc, .rrc, .rl, .rr], op = .rlc ∨ op = .rrc ∨ op = .rl ∨ op = .rr)
    ∧ (∀ op ∈ [RotOp.sla, .sra, .swap, .srl], op = .sla ∨ op = .sra ∨ op = .swap ∨ op = .srl) := by
  decide +kernel

/-- Jumps, CallsAndRestarts, Returns, FallThroughAdvancesPc: every condition holds in one state and not in another. -/
theorem witness_conditions (cc : Cond) : (∃ s, holds s cc) ∧ ∃ s, ¬ holds s cc := by
  cases cc
  · exact ⟨⟨{ State.reset with zf := false }, rfl⟩, ⟨State.reset, by simp [holds, State.reset]⟩⟩
  · exact ⟨⟨State.reset, rfl⟩, ⟨{ State.reset with zf := false }, by simp [holds]⟩⟩
  · exact ⟨⟨{ State.reset with cf := false }, rfl⟩, ⟨State.reset, by simp [holds, State.reset]⟩⟩
  · exact ⟨⟨State.reset, rfl⟩, ⟨{ State.reset with cf := false }, by simp [holds]⟩⟩

/-- HaltOrHaltBug: with the last source pending and IME 0; with IME 1; with bits pending only above bit 4. -/
theorem witness_halt :
    (let s := { State.reset with ifBits := 0b10000, ie := 0xFF }; s.ime = false ∧ s.ifBits &&& s.ie.setWidth 5 ≠ 0)
    ∧ (let s := { State.reset with ifBits := 0b10000, ie := 0xFF, ime := true }
       ¬ (s.ime = false ∧ s.ifBits &&& s.ie.setWidth 5 ≠ 0))
    ∧ (let s := { State.reset with ifBits := 0b11111, ie := 0xE0 }; ¬ (s.ime = false ∧ s.ifBits &&& s.ie.setWidth 5 ≠ 0)) := by
  decide +kernel

/-- StopFatalOrSkip: both values of `STOP_BEHAVIOUR`. -/
theorem witness_stop :
    State.reset.params.stopBehaviour = .fatal
    ∧ ({ State.reset with params := { stopBehaviour := .nop2 } } : State).params.stopBehaviour = .nop2 := ⟨rfl, rfl⟩

/-- A state whose HL points at a work RAM byte that has an echo. -/
def ramAtHl : State := { State.reset with h := 0xDD, l := 0xFF }

/-- The address LD (HL),A stores to. -/
theorem storesTo_ldMhlA {s : State} {i : Instr} {a : Word} (h : StoresTo s i a) (hi : i = .ldMhlA) : a = s.hl := by
  cases h with
  | ldMR | ldMhlD8 | ldMhliA | ldMhldA | incMhl | decMhl | rotMhl | resMhl | setMhl => rfl
  | ldMbcA | ldMdeA | ldMa16A | ldhMa8A | ldMcA | ldMa16SpLow | ldMa16SpHigh | callHigh | callLow => cases hi
  | pushHigh r | pushLow r => cases r <;> cases hi
  | callCcHigh cc | callCcLow cc => cases cc <;> cases hi
  | rstHigh t | rstLow t => fin_cases t <;> cases hi

/-- NOP stores nothing. -/
theorem not_storesTo_nop {s : State} {i : Instr} {a : Word} (h : StoresTo s i a) (hi : i = .nop) : False := by
  cases h with
  | ldMhlD8 | ldMhliA | ldMhldA | incMhl | decMhl | ldMbcA | ldMdeA | ldMa16A | ldhMa8A | ldMcA | ldMa16SpLow | ldMa16SpHigh
  | callHigh | callLow => cases hi
  | ldMR r => cases r <;> cases hi
  | rotMhl op => cases op <;> cases hi
  | resMhl b | setMhl b => fin_cases b <;> cases hi
  | pushHigh r | pushLow r => cases r <;> cases hi
  | callCcHigh cc | callCcLow cc => cases cc <;> cases hi
  | rstHigh t | rstLow t => fin_cases t <;> cases hi

/-- StoresTouchOnlyTheirAddress: a store at 0xDDFF and the byte above it, the byte below its echo, and IE; a form that stores
nothing, at any address. -/
theorem witness_stores :
    (∃ t, exec .ldMhlA ramAtHl = .next t) ∧ (∃ t, exec .nop ramAtHl = .next t)
    ∧ (∀ n ∈ [0xDE00, 0xDDFE, 0xFDFE, 0xFFFF, 0x7FFF, 0xFF05], ¬ PpuWindow (BitVec.ofNat 16 n)
        ∧ ∀ stored, StoresTo ramAtHl .ldMhlA stored → ¬ Touches stored (BitVec.ofNat 16 n))
    ∧ ∀ stored, StoresTo ramAtHl .nop stored → ¬ Touches stored 0xDDFF := by
  refine ⟨answers_some (by decide +kernel), answers_some (by decide +kernel), fun n hn => ⟨?_, fun stored h => ?_⟩,
    fun stored h => (not_storesTo_nop h rfl).elim⟩
  · revert n
    unfold PpuWindow
    decide +kernel
  · rw [storesTo_ldMhlA h rfl]
    revert n
    unfold Touches home
    decide +kernel

/-- No row of R14 names NOP. -/
theorem not_flagRow_nop {i : Instr} {z n h c : FlagMark} (hr : FlagRow i z n h c) (hi : i = .nop) : False := by
  cases hr with
  | add x | adc x | sub x | sbc x | cp x | and x | or x | xor x =>
    rcases x with r | _ | _ <;> first | cases hi | cases r <;> cases hi
  | incR r | decR r => cases r <;> cases hi
  | addHl r => cases r <;> cases hi
  | incMhl | decMhl | addSp | ldHlSp | daa | popAf | cpl | scf | ccf | rlca | rrca | rla | rra => cases hi
  | rot op x => cases op <;> rcases x with r | _ <;> first | cases hi | cases r <;> cases hi
  | swap x => rcases x with r | _ <;> first | cases hi | cases r <;> cases hi
  | bit b x => fin_cases b <;> rcases x with r | _ <;> first | cases hi | cases r <;> cases hi

/-- FlagWritersTable: an instruction with a row, and one with none. -/
theorem witness_flag_rows :
    (∃ t, exec .rlca State.reset = .next t) ∧ FlagRow .rlca .zero .zero .zero .computed
    ∧ (∃ t, exec .nop State.reset = .next t) ∧ ∀ z n h c, ¬ FlagRow .nop z n h c :=
  ⟨answers_some (by decide +kernel), .rlca, answers_some (by decide +kernel), fun _ _ _ _ h => not_flagRow_nop h rfl⟩

/-- EngineStateWriters: every change it names happens. -/
theorem witness_engine_writers :
    (answers (exec .di { State.reset with ime := true, eiPending := true }) fun t => !t.ime && !t.eiPending)
    ∧ (answers (exec .reti State.reset) fun t => t.ime) ∧ (answers (exec .halt State.reset) fun t => t.halted)
    ∧ (answers (exec .halt { State.reset with ifBits := 1, ie := 1 }) fun t => t.haltBug && !t.halted)
    ∧ answers (exec .stop State.reset) fun t => t.fatal == some .stopUnmodelled := by
  decide +kernel

/-- NOP is no control transfer. -/
theorem not_transfer_nop {i : Instr} (h : Transfer i) (hi : i = .nop) : False := by
  cases h with
  | jpA16 | jpHl | jrR8 | callA16 | ret | reti => cases hi
  | jpCc cc | jrCc cc | callCc cc | retCc cc => cases cc <;> cases hi
  | rst t => fin_cases t <;> cases hi

/-- FallThroughAdvancesPc: an instruction that is no transfer; a conditional form that is not taken. -/
theorem witness_fall_through :
    ¬ Transfer .nop ∧ Instr.nop ≠ .stop ∧ ¬ holds State.reset .nz
    ∧ (Instr.jrNzR8 = Instr.jpCc .nz ∨ Instr.jrNzR8 = Instr.jrCc .nz ∨ Instr.jrNzR8 = Instr.callCc .nz
      ∨ Instr.jrNzR8 = Instr.retCc .nz) :=
  ⟨fun h => not_transfer_nop h rfl, by decide, by simp [holds, State.reset], .inr (.inl rfl)⟩

/-- DecodeOfEncodeIsTheInstruction: one well-formed instruction of each format, operand bytes at their ends. -/
theorem witness_well_formed :
    (⟨.nop, []⟩ : CodedInstr).wf ∧ (⟨.ldAD8, [0xFF]⟩ : CodedInstr).wf ∧ (⟨.jpA16, [0x00, 0xFF]⟩ : CodedInstr).wf
    ∧ (⟨.set7A, []⟩ : CodedInstr).wf := by
  decide +kernel

/-- ReadByTheTable: addresses inside and outside the PPU windows, at their ends. -/
theorem witness_ppu_windows :
    (∀ n ∈ [0x7FFF, 0xA000, 0xFF3F, 0xFF4C], ¬ PpuWindow (BitVec.ofNat 16 n))
    ∧ ∀ n ∈ [0x8000, 0x9FFF, 0xFF40, 0xFF4B], PpuWindow (BitVec.ofNat 16 n) := by
  unfold PpuWindow
  decide +kernel

/-- ReadByTheTable, WriteToMemoryRegions, ResetState: each clause at the ends of its range. -/
theorem witness_regions :
    (∀ n ∈ [0x0000, 0x7FFF], (BitVec.ofNat 16 n).toNat ≤ 0x7FFF)
    ∧ (∀ n ∈ [0x8000, 0x9FFF], 0x8000 ≤ (BitVec.ofNat 16 n).toNat ∧ (BitVec.ofNat 16 n).toNat ≤ 0x9FFF)
    ∧ (∀ n ∈ [0xA000, 0xBFFF, 0xC000, 0xDFFF, 0xE000, 0xFDFF, 0xFE00, 0xFE9F, 0xFF80, 0xFFFE], PlainRam (BitVec.ofNat 16 n))
    ∧ (∀ m ∈ [0xFEA0, 0xFEFF, 0xFF00, 0xFF03, 0xFF08, 0xFF0E, 0xFF10, 0xFF3F, 0xFF4C, 0xFF7F],
        let n := (BitVec.ofNat 16 m).toNat
        (0xFEA0 ≤ n ∧ n ≤ 0xFEFF) ∨ n = 0xFF00 ∨ n = 0xFF03 ∨ (0xFF08 ≤ n ∧ n ≤ 0xFF0E) ∨ (0xFF10 ≤ n ∧ n ≤ 0xFF3F)
          ∨ (0xFF4C ≤ n ∧ n ≤ 0xFF7F))
    ∧ ∀ n ∈ [0xFF40, 0xFF4B], 0xFF40 ≤ (BitVec.ofNat 16 n).toNat ∧ (BitVec.ofNat 16 n).toNat ≤ 0xFF4B := by
  unfold PlainRam
  decide

/-- WriteToSerialAndInterruptRegisters: bit 7 clear and set, at the ends; both values of `SERIAL_IRQ_WIRED`. -/
theorem witness_serial :
    (0x7F#8).toNat < 128 ∧ 128 ≤ (0x80#8).toNat ∧ 128 ≤ (0xFF#8).toNat ∧ State.reset.params.serialIrqWired = false
    ∧ ({ serialIrqWired := true } : Config.Params).serialIrqWired = true := by
  decide +kernel

/-- RamKeepsWhatIsWritten: the same byte under its two addresses, and two bytes that differ. -/
theorem witness_ram :
    PlainRam 0xDDFF ∧ PlainRam 0xFDFF ∧ State.reset.mem.wf ∧ home 0xFDFF = home 0xDDFF ∧ home 0xFE00 ≠ home 0xDE00
    ∧ ¬ PpuWindow 0xFE00 ∧ PlainRam 0xDE00 := by
  refine ⟨?_, ?_, ⟨by simp [State.reset], by simp [State.reset]⟩, ?_⟩ <;> simp only [PlainRam, PpuWindow, home] <;> decide

/-- RomNeverChanges, HostRequestsAndOutput, StepCostsBetween4And24: the step from reset answers a state that is not fatal. -/
theorem witness_step :
    ∃ t, step State.reset = .next t ∧ State.reset.params.costsOk = true ∧ t.fatal = none := by
  obtain ⟨t, h, hf⟩ := answers_next (o := step State.reset) (f := fun t => decide (t.fatal = none)) (by decide +kernel)
  exact ⟨t, h, rfl, of_decide_eq_true hf⟩

/-- StepRunsTheDecodedInstruction: an instruction of one byte, one with the prefix, one under the HALT bug, and STOP, which
raises the fatal condition. -/
theorem witness_step_runs :
    Fetches (at_ 0x0100 [0x3C] State.reset) ∧ decodeBytes [0x3C, 0x00] = .ok (⟨.incA, []⟩, [0x00])
    ∧ (answers (exec .incA (at_ 0x0100 [0x3C] State.reset)) fun t => t.fatal == none)
    ∧ decodeBytes [0xCB, 0x37] = .ok (⟨.cbSwapA, []⟩, [])
    ∧ (answers (exec .cbSwapA (at_ 0x0100 [0xCB, 0x37] State.reset)) fun t => t.fatal == none)
    ∧ Fetches { at_ 0x0101 [0x3C] State.reset with haltBug := true }
    ∧ decodeBytes [0x10, 0x00] = .ok (⟨.stop, []⟩, [0x00])
    ∧ answers (exec .stop (at_ 0x0100 [0x10] State.reset)) fun t => t.fatal != none := by
  unfold Fetches
  refine ⟨by decide +kernel, rfl, by decide +kernel, rfl, by decide +kernel, by decide +kernel, rfl, by decide +kernel⟩

/-- A state with IME 1 and the interrupts of `ifBits` requested, all enabled. -/
def interrupted (ifBits : BitVec 5) : State := { State.reset with ime := true, ie := 0x1F, ifBits := ifBits }

/-- InterruptDispatch, DispatchThenReti: the first source before a later one, and the last source alone. -/
theorem witness_dispatch :
    (interrupted 0b00101).fatal = none ∧ (interrupted 0b10000).fatal = none ∧ (atBoundary (interrupted 0b10000)).ime = true
    ∧ (atBoundary (interrupted 0b00101)).ime = true ∧ Chosen (atBoundary (interrupted 0b00101)) .vblank
    ∧ Chosen (atBoundary (interrupted 0b10000)) .joypad ∧ (interrupted 0b00101).mem.wf
    ∧ PlainRam ((atBoundary (interrupted 0b00101)).sp - 1) ∧ PlainRam ((atBoundary (interrupted 0b00101)).sp - 2) := by
  refine ⟨rfl, rfl, rfl, rfl, ?_, ?_, ⟨by simp [interrupted, State.reset], by simp [interrupted, State.reset]⟩, ?_, ?_⟩
    <;> simp only [Chosen, Pending, PlainRam] <;> decide

/-- HaltedIdleStep: halted with nothing pending, and halted with a source pending while IME is 0 (the wake of R311). -/
theorem witness_halted :
    State.reset.fatal = none
    ∧ (let b := atBoundary { State.reset with halted := true, ifBits := 0b00001, ie := 0xFE }
       b.ifBits &&& b.ie.setWidth 5 = 0 ∧ b.halted = true)
    ∧ (let b := atBoundary { State.reset with halted := true, ifBits := 0b10000, ie := 0x10 }
       b.ifBits &&& b.ie.setWidth 5 ≠ 0) := by
  decide +kernel

/-- EnableTakesEffectOneInstructionLate: EI, DI with an enable deferred, RETI, and another instruction after EI. -/
theorem witness_enable :
    (∀ n ∈ [0xFB, 0xF3, 0xD9, 0x00], Fetches { at_ 0x0100 [BitVec.ofNat 8 n] State.reset with eiPending := true })
    ∧ (∀ x ∈ [(0xFB, Instr.ei), (0xF3, .di), (0xD9, .reti), (0x00, .nop)],
        (State.fetch (atBoundary { at_ 0x0100 [BitVec.ofNat 8 x.1] State.reset with eiPending := true })).instr = some x.2
        ∧ (answers (step { at_ 0x0100 [BitVec.ofNat 8 x.1] State.reset with eiPending := true }) fun t => t.fatal == none) = true) := by
  unfold Fetches
  decide +kernel

/-- UnassignedOpcodeIsFatal: the first and the last of the 11 values, with the HALT bug armed. -/
theorem witness_unassigned :
    (∀ n ∈ [0xD3, 0xFD],
      let s := { at_ 0x0100 [BitVec.ofNat 8 n] State.reset with haltBug := true }
      Fetches s ∧ (State.read (atBoundary s) (atBoundary s).pc).1 ∈ unassigned)
    ∧ ({ State.reset with fatal := some .stopUnmodelled } : State).fatal = some .stopUnmodelled := by
  unfold Fetches
  decide +kernel

/-- No load of an immediate and no INC is a control transfer. -/
theorem not_transfer_of {i : Instr} (h : Transfer i) (hi : i = .incA ∨ i = .ldAD8) : False := by
  cases h with
  | jpA16 | jpHl | jrR8 | callA16 | ret | reti => rcases hi with hi | hi <;> cases hi
  | jpCc cc | jrCc cc | callCc cc | retCc cc => cases cc <;> rcases hi with hi | hi <;> cases hi
  | rst t => fin_cases t <;> rcases hi with hi | hi <;> cases hi

/-- HaltBugRefetches: a one-byte instruction, and LD A,d8. -/
theorem witness_halt_bug :
    (∀ x ∈ [(0x3C, Instr.incA), (0x3E, .ldAD8)],
      (let b := atBoundary { at_ 0x0101 [BitVec.ofNat 8 x.1] State.reset with haltBug := true }
       b.haltBug = true ∧ decode (b.read b.pc).1 false = some x.2) ∧ x.2 ≠ .stop ∧ x.2 ≠ .halt)
    ∧ Fetches { at_ 0x0101 [0x3C] State.reset with haltBug := true } ∧ ¬ Transfer .incA ∧ ¬ Transfer .ldAD8
    ∧ ¬ PpuWindow 0x0101 ∧ Instr.incA.length = 1 ∧ Instr.ldAD8 = Instr.ldRD8 .a := by
  refine ⟨by decide +kernel, by unfold Fetches; decide +kernel, fun h => not_transfer_of h (.inl rfl),
    fun h => not_transfer_of h (.inr rfl), ?_, by decide, rfl⟩
  unfold PpuWindow
  decide +kernel

/-- HostRequestsAndOutput: requests and clear_output mixed, an empty list of actions, and no list at all. -/
theorem witness_host :
    ({ State.reset with host := [[.request .timer, .clearOutput, .request .joypad], []] } : State).host
        = [.request .timer, .clearOutput, .request .joypad] :: [[]]
    ∧ ({ State.reset with host := [[]] } : State).host = [] :: [] ∧ State.reset.host = [] :=
  ⟨rfl, rfl, rfl⟩

/-- TimerTickByTheRules: no countdown, and countdowns at both ends of their range. -/
theorem witness_reload : reloadOk none = true ∧ reloadOk (some 1) = true ∧ reloadOk (some 4) = true := by decide

/-- TimerOverflowReloadsAfterFourTicks: TIM-1's start, for each select code, just before the selected bit falls. -/
theorem witness_overflow :
    ∀ x ∈ [(4, 0x03FF), (5, 0x000F), (6, 0x003F), (7, 0xFFFF)],
      let s := { State.reset with tac := BitVec.ofNat 3 x.1, counter := BitVec.ofNat 16 x.2, tima := 0xFF, prevBit := true }
      s.reload = none ∧ s.tima = 0xFF ∧ s.prevBit = true ∧ watched s.tac (s.counter + 1) = false ∧ 4 ≤ s.tac.toNat := by
  decide +kernel

/-- TimaCountsOncePerPeriod: each select code, from a counter whose selected bit is 0 and one whose bit is 1, TIMA at 0xFE. -/
theorem witness_period :
    ∀ x ∈ [(4, 0, false), (5, 0xFFFF, true), (6, 0x0020, true), (7, 0x007F, false)],
      let s := { State.reset with tac := BitVec.ofNat 3 x.1, counter := BitVec.ofNat 16 x.2.1, prevBit := x.2.2, tima := 0xFE }
      4 ≤ s.tac.toNat ∧ s.prevBit = watched s.tac s.counter ∧ s.reload = none ∧ s.tima ≠ 0xFF := by
  decide +kernel

/-- EveryStepKeepsTheInvariant: the state with the timer running meets the invariant, and its step answers a state. -/
theorem witness_invariant :
    StateOk { State.reset with tac := 5, counter := 0x000F, prevBit := true, reload := some 4 }
    ∧ ∃ t, step { State.reset with tac := 5, counter := 0x000F, prevBit := true, reload := some 4 } = .next t := by
  refine ⟨⟨⟨by simp [State.reset], by simp [State.reset]⟩, by simp [State.reset], by decide, by decide⟩, ?_⟩
  obtain ⟨t, h, -⟩ := answers_next (f := fun _ => true)
    (o := step { State.reset with tac := 5, counter := 0x000F, prevBit := true, reload := some 4 }) (by decide +kernel)
  exact ⟨t, h⟩

/-- StepCostsBetween4And24: an override of `CYCLES` within the constraints. -/
theorem witness_costs_ok : ({ costs := [⟨.callCA16, 24, 4⟩, ⟨.ldAD8, 8, 8⟩] } : Config.Params).costsOk = true := by decide

/-- DecimalArithmetic: 99 and 1, 0 and 99. -/
theorem witness_decimal :
    (let s := { State.reset with a := 0x99, b := 0x01 }; s.a = bcd 99 ∧ s.b = bcd 1)
    ∧ (let s := { State.reset with a := 0x00, b := 0x99 }; s.a = bcd 0 ∧ s.b = bcd 99) := by
  decide +kernel

end Sys2Proof.Tests
end

section
/-! PROOFS. What an executed instruction can do to the state, said once over the 500 instructions (`exec_effect`); the
statements about the state's invariant, the flag table, the engine's latches and the program counter follow from it. -/

namespace Sys2Proof

open Sys2Proof.Machine Sys2Proof.Claims

/-! ## Bus accesses and writes of the registers -/

/-- `t` is what bus reads, bus writes and writes of A to L, SP, PC and the T-cycles make of `s`. -/
inductive Accesses (s : State) : State → Prop where
  | refl : Accesses s s
  | read {t : State} (acc : Accesses s t) (addr : Word) : Accesses s (t.read addr).2
  | write {t : State} (acc : Accesses s t) (addr : Word) (v : Byte) : Accesses s (t.write addr v)
  | regs {t u : State} (acc : Accesses s t)
      (hu : u = { t with
        a := u.a, b := u.b, c := u.c, d := u.d, e := u.e, h := u.h, l := u.l, sp := u.sp, pc := u.pc
        cycles := u.cycles }) : Accesses s u

namespace Accesses

variable {s t : State} (acc : Accesses s t)

include acc

theorem finish (p : Word) (k : Nat) : Accesses s (t.finish p k) := acc.regs rfl

theorem setReg (r : Reg8) (v : Byte) : Accesses s (t.setReg r v) := acc.regs (by cases r <;> rfl)

theorem setReg16 (r : Reg16) (v : Word) : Accesses s (t.setReg16 r v) := acc.regs (by cases r <;> rfl)

theorem setHl (v : Word) : Accesses s (t.setHl v) := acc.regs rfl

theorem read16 (addr : Word) : Accesses s (t.read16 addr).2 := (acc.read addr).read (addr + 1)

theorem write16 (addr v : Word) : Accesses s (t.write16 addr v) := (acc.write addr _).write (addr + 1) _

theorem imm8 : Accesses s t.imm8.2 := acc.read _

theorem imm16 : Accesses s t.imm16.2 := acc.read16 _

theorem readOpnd (x : Opnd) : Accesses s (t.readOpnd x).2 := by
  cases x with
  | reg r => exact acc
  | mhl => exact acc.read _

theorem writeOpnd (x : Opnd) (v : Byte) : Accesses s (t.writeOpnd x v) := by
  cases x with
  | reg r => exact acc.setReg r v
  | mhl => exact acc.write _ v

theorem readSrc (x : Src8) : Accesses s (t.readSrc x).2 := by
  cases x with
  | reg r => exact acc
  | mhl => exact acc.read _
  | d8 => exact acc.imm8

theorem setSp (v : Word) : Accesses s { t with sp := v } := acc.regs rfl

theorem push16 (v : Word) : Accesses s (t.push16 v) := by
  rw [State.push16_eq]
  exact (((acc.setSp _).write _ _).setSp _).write _ _

theorem pop16 : Accesses s t.pop16.2 := by
  rw [State.pop16_eq]
  exact ((acc.read _).read _).setSp _

end Accesses

/-- The flags, the engine's latches, the parameters, the host's inputs to come and the clock are the same in both states. -/
structure SameEngine (s t : State) : Prop where
  zf : t.zf = s.zf
  nf : t.nf = s.nf
  hf : t.hf = s.hf
  cf : t.cf = s.cf
  ime : t.ime = s.ime
  halted : t.halted = s.halted
  haltBug : t.haltBug = s.haltBug
  eiPending : t.eiPending = s.eiPending
  fatal : t.fatal = s.fatal
  params : t.params = s.params
  host : t.host = s.host
  clock : t.clock = s.clock

theorem SameEngine.trans {s t u : State} (h : SameEngine s t) (k : SameEngine t u) : SameEngine s u :=
  ⟨k.zf.trans h.zf, k.nf.trans h.nf, k.hf.trans h.hf, k.cf.trans h.cf, k.ime.trans h.ime, k.halted.trans h.halted,
    k.haltBug.trans h.haltBug, k.eiPending.trans h.eiPending, k.fatal.trans h.fatal, k.params.trans h.params,
    k.host.trans h.host, k.clock.trans h.clock⟩

/-- Neither the bus nor a write of the registers reaches the flags or the engine. -/
theorem Accesses.sameEngine {s t : State} (acc : Accesses s t) : SameEngine s t := by
  induction acc with
  | refl => constructor <;> rfl
  | read _ addr ih => exact ih.trans (by constructor <;> simp)
  | write _ addr v ih => exact ih.trans (by constructor <;> simp)
  | regs _ hu ih => exact ih.trans (by constructor <;> rw [hu])

/-- Bus accesses keep the invariant, and it does not speak of the registers. -/
theorem Accesses.stateOk {s t : State} (acc : Accesses s t) (h : StateOk s) : StateOk t := by
  induction acc with
  | refl => exact h
  | read _ addr ih => exact ih.read addr
  | write _ addr v ih => exact ih.write addr v
  | regs _ hu ih => refine ih.of_same ?_ ?_ ?_ ?_ ?_ <;> rw [hu]

/-! ## The effect of an instruction -/

/-- Every accumulator operation has a row in the table of R14. -/
theorem exists_flagRow_alu (op : AluOp) (x : Src8) : ∃ z n h c : FlagMark, FlagRow (Instr.alu op x) z n h c := by
  cases op with
  | add => exact ⟨_, _, _, _, .add x⟩
  | adc => exact ⟨_, _, _, _, .adc x⟩
  | sub => exact ⟨_, _, _, _, .sub x⟩
  | sbc => exact ⟨_, _, _, _, .sbc x⟩
  | and => exact ⟨_, _, _, _, .and x⟩
  | xor => exact ⟨_, _, _, _, .xor x⟩
  | or => exact ⟨_, _, _, _, .or x⟩
  | cp => exact ⟨_, _, _, _, .cp x⟩

/-- Every prefixed rotate, shift or SWAP has a row in the table of R14. -/
theorem exists_flagRow_rot (op : RotOp) (x : Opnd) : ∃ z n h c : FlagMark, FlagRow (Instr.rot op x) z n h c := by
  by_cases hop : op = .swap
  · subst hop
    exact ⟨_, _, _, _, .swap x⟩
  · exact ⟨_, _, _, _, .rot op x hop⟩

/-- What executing `i` in `s` can leave: after bus accesses, only registers written; the flags too where R14 gives `i` a row;
and the engine's latches by DI, RETI, HALT and STOP alone (R14, R17 to R21). -/
inductive Effect (s : State) : Instr → State → Prop where
  | plain {i : Instr} {t : State} (acc : Accesses s t) : Effect s i t
  | flags {i : Instr} {z n h c : FlagMark} {u t : State} (row : FlagRow i z n h c) (acc : Accesses s u)
      (ht : t = { u with
        a := t.a, b := t.b, c := t.c, d := t.d, e := t.e, h := t.h, l := t.l, zf := t.zf, nf := t.nf, hf := t.hf
        cf := t.cf, sp := t.sp, pc := t.pc, cycles := t.cycles }) : Effect s i t
  | di {t : State} (ht : t = { s with ime := false, eiPending := false, pc := t.pc, cycles := t.cycles }) :
      Effect s .di t
  | reti {u t : State} (acc : Accesses s u) (ht : t = { u with ime := true, pc := t.pc, cycles := t.cycles }) :
      Effect s .reti t
  | halt {t : State} (ht : t = { s with halted := t.halted, haltBug := t.haltBug, pc := t.pc, cycles := t.cycles }) :
      Effect s .halt t
  | stop {t : State} (ht : t = { s with fatal := t.fatal, pc := t.pc, cycles := t.cycles }) : Effect s .stop t

/-- Every instruction answers a next state, and that state is an effect of the instruction. -/
theorem exec_effect (i : Instr) (s : State) : ∃ t, exec i s = .next t ∧ Effect s i t := by
  have acc : Accesses s s := .refl
  cases i using Instr.byFamily with
  | h_ldRR dst src => exact ⟨_, exec_ldRR dst src s, .plain (((acc.readSrc _).setReg _ _).finish _ _)⟩
  | h_ldRM r => exact ⟨_, exec_ldRM r s, .plain (((acc.readSrc _).setReg _ _).finish _ _)⟩
  | h_ldMR r => exact ⟨_, exec_ldMR r s, .plain ((acc.write _ _).finish _ _)⟩
  | h_ldRD8 r => exact ⟨_, exec_ldRD8 r s, .plain (((acc.readSrc _).setReg _ _).finish _ _)⟩
  | h_alu op x =>
    obtain ⟨z, n, h, c, row⟩ := exists_flagRow_alu op x
    exact ⟨_, exec_alu op x s, .flags row (acc.readSrc x) rfl⟩
  | h_incR r => exact ⟨_, exec_incR r s, .flags (.incR r) ((acc.readOpnd _).writeOpnd _ _) rfl⟩
  | h_decR r => exact ⟨_, exec_decR r s, .flags (.decR r) ((acc.readOpnd _).writeOpnd _ _) rfl⟩
  | h_ld16 r => exact ⟨_, exec_ld16 r s, .plain ((acc.imm16.setReg16 _ _).finish _ _)⟩
  | h_addHl r => exact ⟨_, exec_addHl r s, .flags (.addHl r) acc rfl⟩
  | h_inc16 r => exact ⟨_, exec_inc16 r s, .plain ((acc.setReg16 _ _).finish _ _)⟩
  | h_dec16 r => exact ⟨_, exec_dec16 r s, .plain ((acc.setReg16 _ _).finish _ _)⟩
  | h_push r => exact ⟨_, exec_push r s, .plain ((acc.push16 _).finish _ _)⟩
  | h_pop r =>
    have hpop := acc.pop16
    rw [exec_pop, popPair]
    generalize s.pop16 = v at hpop
    cases r with
    | bc => exact ⟨_, rfl, .plain (hpop.regs rfl)⟩
    | de => exact ⟨_, rfl, .plain (hpop.regs rfl)⟩
    | hl => exact ⟨_, rfl, .plain (hpop.regs rfl)⟩
    | af => exact ⟨_, rfl, .flags .popAf hpop rfl⟩
  | h_jpCc cc =>
    rw [exec_jpCc, jumpAbsIf]
    split <;> exact ⟨_, rfl, .plain (acc.imm16.finish _ _)⟩
  | h_jrCc cc =>
    rw [exec_jrCc, jumpRelIf]
    split <;> exact ⟨_, rfl, .plain (acc.imm8.finish _ _)⟩
  | h_callCc cc =>
    rw [exec_callCc, callAbsIf]
    split
    · exact ⟨_, rfl, .plain ((acc.imm16.push16 _).finish _ _)⟩
    · exact ⟨_, rfl, .plain (acc.imm16.finish _ _)⟩
  | h_retCc cc =>
    rw [exec_retCc, returnIf]
    split
    · exact ⟨_, rfl, .plain (acc.pop16.finish _ _)⟩
    · exact ⟨_, rfl, .plain (acc.finish _ _)⟩
  | h_rst n => exact ⟨_, exec_rst n s, .plain ((acc.push16 _).finish _ _)⟩
  | h_rot op x =>
    obtain ⟨z, n, h, c, row⟩ := exists_flagRow_rot op x
    exact ⟨_, exec_rot op x s, .flags row ((acc.readOpnd x).writeOpnd x _) rfl⟩
  | h_bit b x => exact ⟨_, exec_bit b x s, .flags (.bit b x) (acc.readOpnd x) rfl⟩
  | h_res b x => exact ⟨_, exec_res b x s, .plain (((acc.readOpnd _).writeOpnd _ _).finish _ _)⟩
  | h_set b x => exact ⟨_, exec_set b x s, .plain (((acc.readOpnd _).writeOpnd _ _).finish _ _)⟩
  | h_nop => exact ⟨_, exec_nop s, .plain (acc.finish _ _)⟩
  | h_ldMbcA => exact ⟨_, exec_ldMbcA s, .plain ((acc.write _ _).finish _ _)⟩
  | h_rlca => exact ⟨_, exec_rlca s, .flags .rlca acc rfl⟩
  | h_ldMa16Sp => exact ⟨_, exec_ldMa16Sp s, .plain ((acc.imm16.write16 _ _).finish _ _)⟩
  | h_ldAMbc => exact ⟨_, exec_ldAMbc s, .plain (((acc.read _).setReg _ _).finish _ _)⟩
  | h_rrca => exact ⟨_, exec_rrca s, .flags .rrca acc rfl⟩
  | h_stop =>
    rw [exec_stop, stopEngine]
    split <;> exact ⟨_, rfl, .stop rfl⟩
  | h_ldMdeA => exact ⟨_, exec_ldMdeA s, .plain ((acc.write _ _).finish _ _)⟩
  | h_rla => exact ⟨_, exec_rla s, .flags .rla acc rfl⟩
  | h_jrR8 => exact ⟨_, exec_jrR8 s, .plain (acc.imm8.finish _ _)⟩
  | h_ldAMde => exact ⟨_, exec_ldAMde s, .plain (((acc.read _).setReg _ _).finish _ _)⟩
  | h_rra => exact ⟨_, exec_rra s, .flags .rra acc rfl⟩
  | h_ldMhliA => exact ⟨_, exec_ldMhliA s, .plain (((acc.write _ _).setHl _).finish _ _)⟩
  | h_daa => exact ⟨_, exec_daa s, .flags .daa acc rfl⟩
  | h_ldAMhli => exact ⟨_, exec_ldAMhli s, .plain ((((acc.read _).setReg _ _).setHl _).finish _ _)⟩
  | h_cpl => exact ⟨_, exec_cpl s, .flags .cpl acc rfl⟩
  | h_ldMhldA => exact ⟨_, exec_ldMhldA s, .plain (((acc.write _ _).setHl _).finish _ _)⟩
  | h_incMhl => exact ⟨_, exec_incMhl s, .flags .incMhl ((acc.readOpnd _).writeOpnd _ _) rfl⟩
  | h_decMhl => exact ⟨_, exec_decMhl s, .flags .decMhl ((acc.readOpnd _).writeOpnd _ _) rfl⟩
  | h_ldMhlD8 => exact ⟨_, exec_ldMhlD8 s, .plain ((acc.imm8.write _ _).finish _ _)⟩
  | h_scf => exact ⟨_, exec_scf s, .flags .scf acc rfl⟩
  | h_ldAMhld => exact ⟨_, exec_ldAMhld s, .plain ((((acc.read _).setReg _ _).setHl _).finish _ _)⟩
  | h_ccf => exact ⟨_, exec_ccf s, .flags .ccf acc rfl⟩
  | h_halt =>
    rw [exec_halt, haltEngine]
    split <;> exact ⟨_, rfl, .halt rfl⟩
  | h_jpA16 => exact ⟨_, exec_jpA16 s, .plain (acc.imm16.finish _ _)⟩
  | h_ret => exact ⟨_, exec_ret s, .plain (acc.pop16.finish _ _)⟩
  | h_callA16 => exact ⟨_, exec_callA16 s, .plain ((acc.imm16.push16 _).finish _ _)⟩
  | h_reti =>
    have hpop := acc.pop16
    rw [exec_reti, returnInterrupt, State.returnFromInterrupt]
    generalize s.pop16 = v at hpop
    exact ⟨_, rfl, .reti hpop rfl⟩
  | h_ldhMa8A => exact ⟨_, exec_ldhMa8A s, .plain ((acc.imm8.write _ _).finish _ _)⟩
  | h_ldMcA => exact ⟨_, exec_ldMcA s, .plain ((acc.write _ _).finish _ _)⟩
  | h_addSpR8 =>
    have himm := acc.imm8
    rw [exec_addSpR8, addToSp]
    generalize s.imm8 = e at himm
    exact ⟨_, rfl, .flags .addSp himm rfl⟩
  | h_jpHl => exact ⟨_, exec_jpHl s, .plain (acc.finish _ _)⟩
  | h_ldMa16A => exact ⟨_, exec_ldMa16A s, .plain ((acc.imm16.write _ _).finish _ _)⟩
  | h_ldhAMa8 => exact ⟨_, exec_ldhAMa8 s, .plain (((acc.imm8.read _).setReg _ _).finish _ _)⟩
  | h_ldAMc => exact ⟨_, exec_ldAMc s, .plain (((acc.read _).setReg _ _).finish _ _)⟩
  | h_di => exact ⟨_, exec_di s, .di rfl⟩
  | h_ldHlSpR8 =>
    have himm := acc.imm8
    rw [exec_ldHlSpR8, loadHlSpOffset]
    generalize s.imm8 = e at himm
    exact ⟨_, rfl, .flags .ldHlSp himm rfl⟩
  | h_ldSpHl => exact ⟨_, exec_ldSpHl s, .plain (acc.regs rfl)⟩
  | h_ldAMa16 => exact ⟨_, exec_ldAMa16 s, .plain (((acc.imm16.read _).setReg _ _).finish _ _)⟩
  | h_ei => exact ⟨_, exec_ei s, .plain (acc.finish _ _)⟩

/-- The next state of an instruction is an effect of it. -/
theorem effect_of_exec {i : Instr} {s t : State} (h : exec i s = .next t) : Effect s i t := by
  obtain ⟨u, hu, heff⟩ := exec_effect i s
  injection hu.symm.trans h with hut
  exact hut ▸ heff

/-! ## The invariant through a step -/

/-- An instruction keeps the invariant. -/
theorem Effect.stateOk {i : Instr} {s t : State} (heff : Effect s i t) (h : StateOk s) : StateOk t := by
  cases heff with
  | plain acc => exact acc.stateOk h
  | flags _ acc ht => refine (acc.stateOk h).of_same ?_ ?_ ?_ ?_ ?_ <;> rw [ht]
  | di ht => refine h.of_same ?_ ?_ ?_ ?_ ?_ <;> rw [ht]
  | reti acc ht => refine (acc.stateOk h).of_same ?_ ?_ ?_ ?_ ?_ <;> rw [ht]
  | halt ht => refine h.of_same ?_ ?_ ?_ ?_ ?_ <;> rw [ht]
  | stop ht => refine h.of_same ?_ ?_ ?_ ?_ ?_ <;> rw [ht]

/-- The host's turn keeps the invariant. -/
theorem StateOk.hostPhase {s : State} (h : StateOk s) : StateOk s.hostPhase := by
  rw [State.hostPhase_state]
  exact h.of_same rfl rfl rfl rfl rfl

/-- The wake-up keeps the invariant. -/
theorem StateOk.wake {s : State} (h : StateOk s) : StateOk s.wake := by
  rw [State.wake_state]
  exact h.of_same rfl rfl rfl rfl rfl

/-- The fetch keeps the invariant. -/
theorem StateOk.fetch {s : State} (h : StateOk s) : StateOk s.fetch.state := by
  rw [State.fetch_state]
  exact h.of_same rfl rfl rfl rfl rfl

/-- The fatal condition is no part of the invariant. -/
theorem StateOk.raiseFatal {s : State} (h : StateOk s) (reason : Fault) : StateOk (s.raiseFatal reason) :=
  h.of_same rfl rfl rfl rfl rfl

/-- Trap entry keeps the invariant: its two bus writes do, and the rest is engine state and an IF bit. -/
theorem StateOk.takeInterrupt {s : State} (h : StateOk s) (src : Source) : StateOk (s.takeInterrupt src) := by
  have hcleared : StateOk { s with ime := false, eiPending := false } := h.of_same rfl rfl rfl rfl rfl
  have hpushed := (Accesses.refl.push16 s.pc).stateOk hcleared
  unfold State.takeInterrupt
  exact hpushed.of_same (by simp) (by simp) (by simp) (by simp) (by simp)

/-- S5 to S8 keep the invariant. -/
theorem StateOk.runInstr {i : Instr} {s u : State} (h : StateOk s) (hu : runInstr i s = .next u) : StateOk u := by
  have hback : StateOk s.haltBugBack := by
    rw [State.haltBugBack_state]
    exact h.of_same rfl rfl rfl rfl rfl
  obtain ⟨v, hv, ⟨-, rfl⟩ | ⟨-, rfl⟩⟩ := runInstr_cases hu
  · exact (effect_of_exec hv).stateOk hback
  · rw [State.afterExec_state]
    exact ((effect_of_exec hv).stateOk hback).of_same rfl rfl rfl rfl rfl

/-- `Step()` keeps the invariant, in each of the four ways it ends. -/
theorem StateOk.cpuStep {s u : State} (h : StateOk s) (hu : cpuStep s = .next u) : StateOk u := by
  obtain ⟨src, -, rfl⟩ | ⟨-, -, rfl⟩ | ⟨-, -, -, rfl⟩ | ⟨-, -, i, -, hrun⟩ := cpuStep_cases hu
  · exact h.wake.takeInterrupt src
  · exact h.wake.of_same rfl rfl rfl rfl rfl
  · exact h.wake.fetch.raiseFatal _
  · exact h.wake.fetch.runInstr hrun

/-- A tick of the system step keeps the invariant: the timer's tick does, and a request writes IF only. -/
theorem StateOk.tick {s : State} (h : StateOk s) : StateOk s.tick := by
  unfold State.tick
  simp only
  split
  · exact h.timerTick.of_same rfl rfl rfl rfl rfl
  · exact h.timerTick

theorem StateOk.ticks {s : State} (h : StateOk s) (k : Nat) : StateOk (State.ticks k s) := by
  induction k generalizing s with
  | zero => exact h
  | succ k ih => exact ih h.tick

theorem StateOk.elapse {s : State} (h : StateOk s) (k : Nat) : StateOk (s.elapse k) :=
  (h.ticks k).of_same rfl rfl rfl rfl rfl

/-- Settles O57: the host's turn, `Step()` and the ticks after it each keep the invariant. -/
theorem everyStepKeepsTheInvariant : Obligations.EveryStepKeepsTheInvariant := by
  unfold Obligations.EveryStepKeepsTheInvariant
  intro s t h hstep
  obtain ⟨-, u, hu, rfl⟩ := step_cases hstep
  exact (h.hostPhase.cpuStep hu).elapse u.cycles

end Sys2Proof
end

section
/-! PROOFS. Which instructions write the flags, the engine's latches and PC (R14, R16 to R21). -/

namespace Sys2Proof

open Sys2Proof.Machine Sys2Proof.Claims

/-! ## The flag table -/

/-- Whether two states' flags stand to each other as the four marks of a row say. -/
def ObeysRow (z n h c : FlagMark) (s t : State) : Prop :=
  z.Obeyed s.zf t.zf ∧ n.Obeyed s.nf t.nf ∧ h.Obeyed s.hf t.hf ∧ c.Obeyed s.cf t.cf

/-- `exec` answers at most one state, so a row may be checked on the state that the law of the family gives. -/
theorem obeysRow_of_exec {i : Instr} {z n h c : FlagMark} {s t u : State} (ht : exec i s = .next t)
    (hu : exec i s = .next u) (hrow : ObeysRow z n h c s u) : ObeysRow z n h c s t := by
  injection hu.symm.trans ht with hut
  exact hut ▸ hrow

/-- Each row holds: a mark for computed asks nothing, and every other mark is what the family of the row writes there (R14). -/
theorem obeysRow_of_flagRow {i : Instr} {z n h c : FlagMark} (row : FlagRow i z n h c) {s t : State}
    (ht : exec i s = .next t) : ObeysRow z n h c s t := by
  cases row with
  | add x => exact obeysRow_of_exec ht (exec_alu .add x s) ⟨trivial, rfl, trivial, trivial⟩
  | adc x => exact obeysRow_of_exec ht (exec_alu .adc x s) ⟨trivial, rfl, trivial, trivial⟩
  | sub x => exact obeysRow_of_exec ht (exec_alu .sub x s) ⟨trivial, rfl, trivial, trivial⟩
  | sbc x => exact obeysRow_of_exec ht (exec_alu .sbc x s) ⟨trivial, rfl, trivial, trivial⟩
  | cp x => exact obeysRow_of_exec ht (exec_alu .cp x s) ⟨trivial, rfl, trivial, trivial⟩
  | and x => exact obeysRow_of_exec ht (exec_alu .and x s) ⟨trivial, rfl, rfl, rfl⟩
  | or x => exact obeysRow_of_exec ht (exec_alu .or x s) ⟨trivial, rfl, rfl, rfl⟩
  | xor x => exact obeysRow_of_exec ht (exec_alu .xor x s) ⟨trivial, rfl, rfl, rfl⟩
  | incR r => exact obeysRow_of_exec ht (exec_incR r s) ⟨trivial, rfl, trivial, rfl⟩
  | incMhl => exact obeysRow_of_exec ht (exec_incMhl s) ⟨trivial, rfl, trivial, rfl⟩
  | decR r => exact obeysRow_of_exec ht (exec_decR r s) ⟨trivial, rfl, trivial, rfl⟩
  | decMhl => exact obeysRow_of_exec ht (exec_decMhl s) ⟨trivial, rfl, trivial, rfl⟩
  | addHl r => exact obeysRow_of_exec ht (exec_addHl r s) ⟨rfl, rfl, trivial, trivial⟩
  | addSp => exact obeysRow_of_exec ht (exec_addSpR8 s) ⟨rfl, rfl, trivial, trivial⟩
  | ldHlSp => exact obeysRow_of_exec ht (exec_ldHlSpR8 s) ⟨rfl, rfl, trivial, trivial⟩
  | daa => exact obeysRow_of_exec ht (exec_daa s) ⟨trivial, rfl, rfl, trivial⟩
  | popAf => exact ⟨trivial, trivial, trivial, trivial⟩
  | cpl => exact obeysRow_of_exec ht (exec_cpl s) ⟨rfl, rfl, rfl, rfl⟩
  | scf => exact obeysRow_of_exec ht (exec_scf s) ⟨rfl, rfl, rfl, rfl⟩
  | ccf => exact obeysRow_of_exec ht (exec_ccf s) ⟨rfl, rfl, rfl, trivial⟩
  | rlca => exact obeysRow_of_exec ht (exec_rlca s) ⟨rfl, rfl, rfl, trivial⟩
  | rrca => exact obeysRow_of_exec ht (exec_rrca s) ⟨rfl, rfl, rfl, trivial⟩
  | rla => exact obeysRow_of_exec ht (exec_rla s) ⟨rfl, rfl, rfl, trivial⟩
  | rra => exact obeysRow_of_exec ht (exec_rra s) ⟨rfl, rfl, rfl, trivial⟩
  | rot op x hop => exact obeysRow_of_exec ht (exec_rot op x s) ⟨trivial, rfl, rfl, trivial⟩
  | swap x => exact obeysRow_of_exec ht (exec_rot .swap x s) ⟨trivial, rfl, rfl, rfl⟩
  | bit b x => exact obeysRow_of_exec ht (exec_bit b x s) ⟨trivial, rfl, rfl, rfl⟩

/-- Outside the table no flag is written: bus accesses and register writes do not reach them, nor do DI, RETI, HALT, STOP. -/
theorem Effect.keeps_flags {i : Instr} {s t : State} (heff : Effect s i t)
    (hno : ∀ z n h c : FlagMark, ¬ FlagRow i z n h c) : t.zf = s.zf ∧ t.nf = s.nf ∧ t.hf = s.hf ∧ t.cf = s.cf := by
  cases heff with
  | plain acc => exact ⟨acc.sameEngine.zf, acc.sameEngine.nf, acc.sameEngine.hf, acc.sameEngine.cf⟩
  | flags row _ _ => exact absurd row (hno _ _ _ _)
  | di ht => rw [ht]; exact ⟨rfl, rfl, rfl, rfl⟩
  | reti acc ht => rw [ht]; exact ⟨acc.sameEngine.zf, acc.sameEngine.nf, acc.sameEngine.hf, acc.sameEngine.cf⟩
  | halt ht => rw [ht]; exact ⟨rfl, rfl, rfl, rfl⟩
  | stop ht => rw [ht]; exact ⟨rfl, rfl, rfl, rfl⟩

/-- Settles O32: row by row where the instruction has one, and by its effect where it has none. -/
theorem flagWritersTable : Obligations.FlagWritersTable := by
  unfold Obligations.FlagWritersTable
  intro i s t ht
  exact ⟨fun z n h c row => obeysRow_of_flagRow row ht, fun hno => (effect_of_exec ht).keeps_flags hno⟩

/-! ## The engine's latches -/

/-- Settles O33: each latch is written by the one effect that names it. -/
theorem engineStateWriters : Obligations.EngineStateWriters := by
  unfold Obligations.EngineStateWriters
  intro i s t ht
  have heff := effect_of_exec ht
  clear ht
  cases heff with
  | plain acc =>
    have same := acc.sameEngine
    exact ⟨absurd same.ime, absurd same.halted, absurd same.haltBug, absurd same.eiPending, absurd same.fatal,
      same.params, same.host, same.clock⟩
  | flags _ acc ht =>
    have same := acc.sameEngine
    rw [ht]
    exact ⟨absurd same.ime, absurd same.halted, absurd same.haltBug, absurd same.eiPending, absurd same.fatal,
      same.params, same.host, same.clock⟩
  | di ht =>
    rw [ht]
    exact ⟨fun _ => .inl ⟨rfl, rfl⟩, absurd rfl, absurd rfl, fun _ => rfl, absurd rfl, rfl, rfl, rfl⟩
  | reti acc ht =>
    have same := acc.sameEngine
    rw [ht]
    exact ⟨fun _ => .inr ⟨rfl, rfl⟩, absurd same.halted, absurd same.haltBug, absurd same.eiPending,
      absurd same.fatal, same.params, same.host, same.clock⟩
  | halt ht =>
    rw [ht]
    exact ⟨absurd rfl, fun _ => rfl, fun _ => rfl, absurd rfl, absurd rfl, rfl, rfl, rfl⟩
  | stop ht =>
    rw [ht]
    exact ⟨absurd rfl, absurd rfl, absurd rfl, absurd rfl, fun _ => rfl, rfl, rfl, rfl⟩

/-! ## The program counter -/

/-- `exec` answers a next state with PC behind the instruction (R16). -/
def FallsThrough (i : Instr) (s : State) : Prop :=
  ∃ t, exec i s = .next t ∧ t.pc = s.pc + BitVec.ofNat 16 i.length

/-- The PC that an instruction finishes with is the one its next state has. -/
theorem fallsThrough_of_finish {i : Instr} {s u : State} {p : Word} {k : Nat}
    (h : exec i s = .next (u.finish p k)) (hp : p = s.pc + BitVec.ofNat 16 i.length) : FallsThrough i s :=
  ⟨_, h, hp⟩

/-- The instructions with operand bytes stand in the first and the last quadrant of the unprefixed opcodes (R101, R104). -/
theorem opcode_of_operands : ∀ i ∈ Instr.formatU2 ++ Instr.formatU3,
    i.opcode < 0x40 ∨ (0xC0 ≤ i.opcode ∧ i.opcode < 0x100) := by decide

/-- No operand byte follows an opcode of the two middle quadrants or a prefixed opcode (R102, R103, R105). -/
theorem operandBytes_eq_zero {i : Instr} (h : (0x40 ≤ i.opcode ∧ i.opcode < 0xC0) ∨ 0x100 ≤ i.opcode) :
    i.operandBytes = 0 := by
  have hno : i ∉ Instr.formatU2 ++ Instr.formatU3 := fun hi => by
    have := opcode_of_operands i hi
    omega
  rw [List.mem_append, not_or] at hno
  rw [Instr.operandBytes, if_neg hno.2, if_neg hno.1]

theorem length_of_middle {i : Instr} (h : 0x40 ≤ i.opcode ∧ i.opcode < 0xC0) : i.length = 1 := by
  rw [Instr.length, operandBytes_eq_zero (.inl h), Instr.opcodeBytes, if_pos (by omega)]
  rfl

theorem length_of_prefixed {i : Instr} (h : 0x100 ≤ i.opcode) : i.length = 2 := by
  rw [Instr.length, operandBytes_eq_zero (.inr h), Instr.opcodeBytes, if_neg (by omega)]
  rfl

theorem length_ldRR (dst src : Reg8) : (Instr.ldRR dst src).length = 1 :=
  length_of_middle (by cases dst <;> cases src <;> decide)

theorem length_alu_reg (op : AluOp) (r : Reg8) : (Instr.alu op (.reg r)).length = 1 :=
  length_of_middle (by cases op <;> cases r <;> decide)

theorem length_rot (op : RotOp) (x : Opnd) : (Instr.rot op x).length = 2 := by
  apply length_of_prefixed
  cases x with
  | reg r => cases op <;> cases r <;> decide
  | mhl => cases op <;> decide

theorem length_bit (b : Fin 8) (x : Opnd) : (Instr.bit b x).length = 2 := by
  apply length_of_prefixed
  cases x with
  | reg r => cases r <;> revert b <;> decide
  | mhl => revert b; decide

theorem length_res (b : Fin 8) (x : Opnd) : (Instr.res b x).length = 2 := by
  apply length_of_prefixed
  cases x with
  | reg r => cases r <;> revert b <;> decide
  | mhl => revert b; decide

theorem length_set (b : Fin 8) (x : Opnd) : (Instr.set b x).length = 2 := by
  apply length_of_prefixed
  cases x with
  | reg r => cases r <;> revert b <;> decide
  | mhl => revert b; decide

/-- Every instruction but STOP that is no transfer finishes with PC moved on by its length (R16, R90). -/
theorem fallsThrough_of_not_transfer {i : Instr} (s : State) (htr : ¬ Transfer i) (hstop : i ≠ .stop) :
    FallsThrough i s := by
  cases i using Instr.byFamily with
  | h_ldRR dst src => exact fallsThrough_of_finish (exec_ldRR dst src s) (by rw [length_ldRR]; rfl)
  | h_ldRM r => exact fallsThrough_of_finish (exec_ldRM r s) (by cases r <;> rfl)
  | h_ldMR r => exact fallsThrough_of_finish (exec_ldMR r s) (by cases r <;> rfl)
  | h_ldRD8 r => exact fallsThrough_of_finish (exec_ldRD8 r s) (by cases r <;> rfl)
  | h_alu op x =>
    refine fallsThrough_of_finish (exec_alu op x s) ?_
    cases x with
    | reg r => rw [length_alu_reg]; rfl
    | mhl => cases op <;> rfl
    | d8 => cases op <;> rfl
  | h_incR r => exact fallsThrough_of_finish (exec_incR r s) (by cases r <;> rfl)
  | h_decR r => exact fallsThrough_of_finish (exec_decR r s) (by cases r <;> rfl)
  | h_ld16 r => exact fallsThrough_of_finish (exec_ld16 r s) (by cases r <;> rfl)
  | h_addHl r => exact fallsThrough_of_finish (exec_addHl r s) (by cases r <;> rfl)
  | h_inc16 r => exact fallsThrough_of_finish (exec_inc16 r s) (by cases r <;> rfl)
  | h_dec16 r => exact fallsThrough_of_finish (exec_dec16 r s) (by cases r <;> rfl)
  | h_push r => exact fallsThrough_of_finish (exec_push r s) (by cases r <;> rfl)
  | h_pop r => exact fallsThrough_of_finish (exec_pop r s) (by cases r <;> rfl)
  | h_jpCc cc => exact absurd (.jpCc cc) htr
  | h_jrCc cc => exact absurd (.jrCc cc) htr
  | h_callCc cc => exact absurd (.callCc cc) htr
  | h_retCc cc => exact absurd (.retCc cc) htr
  | h_rst n => exact absurd (.rst n) htr
  | h_rot op x => exact fallsThrough_of_finish (exec_rot op x s) (by rw [length_rot]; rfl)
  | h_bit b x => exact fallsThrough_of_finish (exec_bit b x s) (by rw [length_bit]; rfl)
  | h_res b x => exact fallsThrough_of_finish (exec_res b x s) (by rw [length_res]; rfl)
  | h_set b x => exact fallsThrough_of_finish (exec_set b x s) (by rw [length_set]; rfl)
  | h_nop => exact fallsThrough_of_finish (exec_nop s) rfl
  | h_ldMbcA => exact fallsThrough_of_finish (exec_ldMbcA s) rfl
  | h_rlca => exact fallsThrough_of_finish (exec_rlca s) rfl
  | h_ldMa16Sp => exact fallsThrough_of_finish (exec_ldMa16Sp s) rfl
  | h_ldAMbc => exact fallsThrough_of_finish (exec_ldAMbc s) rfl
  | h_rrca => exact fallsThrough_of_finish (exec_rrca s) rfl
  | h_stop => exact absurd rfl hstop
  | h_ldMdeA => exact fallsThrough_of_finish (exec_ldMdeA s) rfl
  | h_rla => exact fallsThrough_of_finish (exec_rla s) rfl
  | h_jrR8 => exact absurd .jrR8 htr
  | h_ldAMde => exact fallsThrough_of_finish (exec_ldAMde s) rfl
  | h_rra => exact fallsThrough_of_finish (exec_rra s) rfl
  | h_ldMhliA => exact fallsThrough_of_finish (exec_ldMhliA s) rfl
  | h_daa => exact fallsThrough_of_finish (exec_daa s) rfl
  | h_ldAMhli => exact fallsThrough_of_finish (exec_ldAMhli s) rfl
  | h_cpl => exact fallsThrough_of_finish (exec_cpl s) rfl
  | h_ldMhldA => exact fallsThrough_of_finish (exec_ldMhldA s) rfl
  | h_incMhl => exact fallsThrough_of_finish (exec_incMhl s) rfl
  | h_decMhl => exact fallsThrough_of_finish (exec_decMhl s) rfl
  | h_ldMhlD8 => exact fallsThrough_of_finish (exec_ldMhlD8 s) (by rw [State.imm8_pc]; rfl)
  | h_scf => exact fallsThrough_of_finish (exec_scf s) rfl
  | h_ldAMhld => exact fallsThrough_of_finish (exec_ldAMhld s) rfl
  | h_ccf => exact fallsThrough_of_finish (exec_ccf s) rfl
  | h_halt =>
    rw [FallsThrough, exec_halt, haltEngine]
    split <;> exact ⟨_, rfl, rfl⟩
  | h_jpA16 => exact absurd .jpA16 htr
  | h_ret => exact absurd .ret htr
  | h_callA16 => exact absurd .callA16 htr
  | h_reti => exact absurd .reti htr
  | h_ldhMa8A => exact fallsThrough_of_finish (exec_ldhMa8A s) (by rw [State.imm8_pc]; rfl)
  | h_ldMcA => exact fallsThrough_of_finish (exec_ldMcA s) rfl
  | h_addSpR8 => exact fallsThrough_of_finish (exec_addSpR8 s) rfl
  | h_jpHl => exact absurd .jpHl htr
  | h_ldMa16A => exact fallsThrough_of_finish (exec_ldMa16A s) (by rw [State.imm16_pc]; rfl)
  | h_ldhAMa8 => exact fallsThrough_of_finish (exec_ldhAMa8 s) (by rw [State.imm8_pc]; rfl)
  | h_ldAMc => exact fallsThrough_of_finish (exec_ldAMc s) rfl
  | h_di => exact fallsThrough_of_finish (exec_di s) rfl
  | h_ldHlSpR8 => exact fallsThrough_of_finish (exec_ldHlSpR8 s) rfl
  | h_ldSpHl => exact fallsThrough_of_finish (exec_ldSpHl s) rfl
  | h_ldAMa16 => exact fallsThrough_of_finish (exec_ldAMa16 s) (by rw [State.imm16_pc]; rfl)
  | h_ei => exact fallsThrough_of_finish (exec_ei s) rfl

/-- The condition as the statements say it is the one the machine tests (R97). -/
theorem cond_iff_holds (s : State) (cc : Cond) : s.cond cc = true ↔ holds s cc := by
  cases cc <;> simp [State.cond, holds]

/-- A conditional transfer that is not taken finishes with PC moved on by its length (R251, R254, R256, R258). -/
theorem fallsThrough_of_not_taken {i : Instr} {s : State} {cc : Cond} (hnot : ¬ holds s cc)
    (hi : i = Instr.jpCc cc ∨ i = Instr.jrCc cc ∨ i = Instr.callCc cc ∨ i = Instr.retCc cc) : FallsThrough i s := by
  rw [← cond_iff_holds] at hnot
  obtain rfl | rfl | rfl | rfl := hi
  · exact fallsThrough_of_finish ((exec_jpCc cc s).trans (if_neg hnot)) (by cases cc <;> rfl)
  · exact fallsThrough_of_finish ((exec_jrCc cc s).trans (if_neg hnot)) (by cases cc <;> rfl)
  · exact fallsThrough_of_finish ((exec_callCc cc s).trans (if_neg hnot)) (by cases cc <;> rfl)
  · exact fallsThrough_of_finish ((exec_retCc cc s).trans (if_neg hnot)) (by cases cc <;> rfl)

/-- Settles O34: by family, and by the four conditional families where they are not taken. -/
theorem fallThroughAdvancesPc : Obligations.FallThroughAdvancesPc := by
  unfold Obligations.FallThroughAdvancesPc
  intro i s
  exact ⟨fallsThrough_of_not_transfer s, fun _ hnot hi => fallsThrough_of_not_taken hnot hi⟩

end Sys2Proof
end

section
/-! PROOFS. The operand selectors and the views of the register file (R11, R12, R95, R96), and the bus writes of the serial
and interrupt registers (R22, R23, R60, R63). -/

namespace Sys2Proof

open Sys2Proof.Machine Sys2Proof.Claims

/-! ## Pairs and the flags byte -/

/-- The low nibble of F is zero (R12). -/
theorem f_toNat_mod (s : State) : s.f.toNat % 16 = 0 := by
  rw [State.f, BitVec.toNat_append, Nat.shiftLeft_eq]
  simp

/-- Settles O1: every accessor is the field or the pair it names, and the flags byte ends in a zero nibble. -/
theorem pairsAndFlagsByte : Obligations.PairsAndFlagsByte := by
  unfold Obligations.PairsAndFlagsByte
  intro s v w
  exact ⟨rfl, rfl, rfl, rfl, rfl, rfl, rfl, rfl, rfl, rfl, rfl, rfl, rfl, rfl, rfl, rfl, rfl, fun r => ⟨rfl, rfl⟩, rfl,
    rfl, rfl, rfl, rfl, rfl, rfl, rfl, rfl, rfl, rfl, rfl, rfl, rfl, rfl, rfl, rfl, rfl, rfl, rfl, rfl, rfl, f_toNat_mod s⟩

/-! ## The serial and interrupt registers -/

/-- Bit 7 of a byte says whether it is 128 or more. -/
theorem getLsbD_seven (v : Byte) : v.getLsbD 7 = decide (128 ≤ v.toNat) :=
  BitVec.msb_eq_decide v

/-- Clearing bit 7 of a byte takes 128 off it (R60). -/
theorem and_0x7F_of_le {v : Byte} (h : 128 ≤ v.toNat) : v &&& 0x7F = BitVec.ofNat 8 (v.toNat - 128) := by
  apply BitVec.eq_of_toNat_eq
  have hand : v.toNat &&& 0x7F = v.toNat % 128 := Nat.and_two_pow_sub_one_eq_mod v.toNat 7
  have hlt := v.isLt
  calc (v &&& 0x7F).toNat
    _ = v.toNat % 128 := hand
    _ = (v.toNat - 128) % 2 ^ 8 := by omega

/-- IF reads back under three 1 bits (R22). -/
theorem append_ifBits (x : BitVec 5) : 0b111#3 ++ x = 0xE0 ||| x.setWidth 8 := by
  apply BitVec.eq_of_toNat_eq
  have hx : x.toNat % 256 = x.toNat := Nat.mod_eq_of_lt (by omega)
  calc (0b111#3 ++ x).toNat
    _ = 0xE0 ||| x.toNat := BitVec.toNat_append _ _
    _ = (0xE0 ||| x.setWidth 8).toNat := by simp [hx]

/-- A control write with bit 7 clear stores the value (R60). -/
theorem writeSc_of_lt (s : State) {v : Byte} (h : v.toNat < 128) : s.writeSc v = { s with sc := v } := by
  have hbit : v.getLsbD 7 = false := by rw [getLsbD_seven]; exact decide_eq_false (by omega)
  rw [State.writeSc, hbit]
  rfl

/-- A control write with bit 7 set sends SB, reads back without that bit, and requests Serial where it is wired (R60). -/
theorem writeSc_of_le (s : State) {v : Byte} (h : 128 ≤ v.toNat) : s.writeSc v = { s with
    out := s.out ++ [s.sb], sc := BitVec.ofNat 8 (v.toNat - 128)
    ifBits := if s.params.serialIrqWired then s.ifBits ||| 0b01000 else s.ifBits } := by
  have hbit : v.getLsbD 7 = true := by rw [getLsbD_seven]; exact decide_eq_true h
  rw [State.writeSc, if_pos hbit, and_0x7F_of_le h]
  cases hw : s.params.serialIrqWired
  · rfl
  · rfl

/-- Settles O40: the bus target of each of the four addresses, and what a write there does. -/
theorem writeToSerialAndInterruptRegisters : Obligations.WriteToSerialAndInterruptRegisters := by
  unfold Obligations.WriteToSerialAndInterruptRegisters
  intro s v
  refine ⟨rfl, rfl, rfl, writeSc_of_lt s, writeSc_of_le s, ?_, append_ifBits s.ifBits, rfl, rfl⟩
  rw [BitVec.ofNat_toNat]
  rfl

end Sys2Proof
end

section
/-! PROOFS. The bus by the tables of R51 and R52: what a read returns, where a write lands, what it leaves, and the statements
that say so region by region. -/

namespace Sys2Proof

open Sys2Proof.Machine Sys2Proof.Claims

/-! ## The byte a read returns (R51) -/

/-- DIV reads as the counter's high byte (R61). -/
theorem extract_high_eq (counter : BitVec 16) : counter.extractLsb' 8 8 = BitVec.ofNat 8 (counter.toNat / 256) := by
  apply BitVec.eq_of_toNat_eq
  rw [BitVec.extractLsb'_toNat, BitVec.toNat_ofNat, Nat.shiftRight_eq_div_pow]

/-- TAC reads back under its five fill bits (R61). -/
theorem fill_append_tac (fill : BitVec 5) (tac : BitVec 3) :
    fill ++ tac = BitVec.ofNat 8 (8 * fill.toNat + tac.toNat) := by
  apply BitVec.eq_of_toNat_eq
  have hfill := fill.isLt
  have htac := tac.isLt
  calc (fill ++ tac).toNat
    _ = fill.toNat <<< 3 ||| tac.toNat := BitVec.toNat_append _ _
    _ = fill.toNat * 2 ^ 3 + tac.toNat := by rw [← Nat.shiftLeft_add_eq_or_of_lt htac, Nat.shiftLeft_eq]
    _ = (8 * fill.toNat + tac.toNat) % 2 ^ 8 := by omega

/-- The byte a bus read returns, by what the address selects: `State.read` with the registers' bytes as the statements write
them. -/
def selectedByte (s : State) (addr : Word) : BusTarget → Byte
  | .rom cell | .ram cell => s.mem.readByte cell
  | .vram offset => Config.ppuReadVram s.ppu s.clock offset
  | .lcd => Config.ppuReadRegister s.ppu s.clock addr
  | .unmapped => 0xFF
  | .sb => s.sb
  | .sc => s.sc
  | .div => BitVec.ofNat 8 (s.counter.toNat / 256)
  | .tima => s.tima
  | .tma => s.tma
  | .tac => BitVec.ofNat 8 (8 * s.params.tacReadFill.toNat + s.tac.toNat)
  | .ifReg => 0xE0 ||| s.ifBits.setWidth 8
  | .ie => s.ie

theorem read_fst_eq_selectedByte (s : State) (addr : Word) :
    (s.read addr).1 = selectedByte s addr (busTarget addr) := by
  unfold State.read
  cases busTarget addr with
  | div => exact extract_high_eq s.counter
  | tac => exact fill_append_tac s.params.tacReadFill s.tac
  | ifReg => exact append_ifBits s.ifBits
  | _ => rfl

/-- The byte of a bus read is the one of the table, row by row. -/
theorem read_fst (s : State) (addr : Word) : (s.read addr).1 = busRead s addr := by
  rw [read_fst_eq_selectedByte, busTarget_eq]
  simp only [apply_ite (selectedByte s addr)]
  rfl

/-! ## The rows of the address decoder (R51, R52) -/

theorem busTarget_vram {addr : Word} (h : 0x8000 ≤ addr.toNat ∧ addr.toNat ≤ 0x9FFF) :
    busTarget addr = .vram (BitVec.ofNat 13 (addr.toNat - 0x8000)) := by
  rw [busTarget_eq]
  simp (disch := omega) only [if_pos, if_neg]

theorem busTarget_lcd {addr : Word} (h : 0xFF40 ≤ addr.toNat ∧ addr.toNat ≤ 0xFF4B) : busTarget addr = .lcd := by
  rw [busTarget_eq]
  simp (disch := omega) only [if_pos, if_neg]

theorem busTarget_ram {addr : Word} (h : PlainRam addr) : busTarget addr = .ram (home addr) := by
  unfold PlainRam at h
  by_cases hecho : 0xE000 ≤ addr.toNat ∧ addr.toNat ≤ 0xFDFF
  · rw [busTarget_eq, home, if_pos hecho]
    simp (disch := omega) only [if_pos, if_neg]
  · rw [busTarget_eq, home, if_neg hecho]
    simp (disch := omega) only [if_pos, if_neg]
    split_ifs <;> rfl

/-- The addresses below 0xFF80 at which neither a byte nor a register stands (R59, R64). -/
def Unmapped (addr : Word) : Prop :=
  let n := addr.toNat
  (0xFEA0 ≤ n ∧ n ≤ 0xFEFF) ∨ n = 0xFF00 ∨ n = 0xFF03 ∨ (0xFF08 ≤ n ∧ n ≤ 0xFF0E) ∨ (0xFF10 ≤ n ∧ n ≤ 0xFF3F)
    ∨ (0xFF4C ≤ n ∧ n ≤ 0xFF7F)

theorem busTarget_unmapped {addr : Word} (h : Unmapped addr) : busTarget addr = .unmapped := by
  unfold Unmapped at h
  rw [busTarget_eq]
  by_cases hlow : addr.toNat ≤ 0xFEFF <;> simp (disch := omega) only [if_pos, if_neg]

/-- Where the addresses are that select a target: a cell is the byte its addresses stand for (R57), the collaborator is behind
its windows (R54, R62), and each register has one address. -/
def Selects (addr : Word) : BusTarget → Prop
  | .rom cell | .ram cell => home addr = cell
  | .vram _ | .lcd => PpuWindow addr
  | .unmapped => True
  | .sb => addr = 0xFF01
  | .sc => addr = 0xFF02
  | .div => addr = 0xFF04
  | .tima => addr = 0xFF05
  | .tma => addr = 0xFF06
  | .tac => addr = 0xFF07
  | .ifReg => addr = 0xFF0F
  | .ie => addr = 0xFFFF

theorem selects_busTarget (addr : Word) : Selects addr (busTarget addr) := by
  obtain ⟨hn, ht⟩ | ⟨hn, ht⟩ | ⟨hn, ht⟩ | ⟨hn, ht⟩ | ⟨hn, ht⟩ | ⟨hn, ht⟩ | ⟨hn, ht⟩ | ⟨hn, ht⟩ | ⟨hn, ht⟩ | ⟨hn, ht⟩ |
    ⟨hn, ht⟩ | ⟨hn, ht⟩ | ⟨hn, ht⟩ | ⟨hn, ht⟩ | ⟨hn, ht⟩ | ⟨hn, ht⟩ | ⟨hn, ht⟩ := busTarget_cases addr <;> rw [ht]
  exacts [if_neg (by omega), .inl hn, if_neg (by omega), if_pos hn, if_neg (by omega), trivial, hn, hn, hn, hn, hn, hn, hn,
    .inr hn, trivial, if_neg (by omega), hn]

theorem selects_of_eq {addr : Word} {target : BusTarget} (h : busTarget addr = target) : Selects addr target :=
  h ▸ selects_busTarget addr

/-- Settles O38: the byte by the table; the state by what the address selects. -/
theorem readByTheTable : Obligations.ReadByTheTable := by
  unfold Obligations.ReadByTheTable
  intro s addr
  refine ⟨read_fst s addr, fun hwin => ?_, fun hvram => ?_, fun hlcd => ?_⟩
  · exact State.read_state_of_not_ppu s (fun _ h => hwin (selects_of_eq h)) fun h => hwin (selects_of_eq h)
  · rw [State.read, busTarget_vram hvram]
    rfl
  · rw [State.read, busTarget_lcd hlcd]
    rfl

/-- Settles O39: each region by what its addresses select. -/
theorem writeToMemoryRegions : Obligations.WriteToMemoryRegions := by
  unfold Obligations.WriteToMemoryRegions
  intro s addr v
  refine ⟨fun hrom => ?_, fun hvram => ?_, fun hram => ?_, fun hno => ?_, fun hlcd => ?_⟩
  · rw [State.write, busTarget_rom (Nat.lt_succ_of_le hrom)]
  · rw [State.write, State.read, busTarget_vram hvram]
    exact ⟨rfl, rfl⟩
  · rw [State.write, State.read, busTarget_ram hram]
    exact ⟨rfl, rfl⟩
  · rw [State.write, State.read, busTarget_unmapped hno]
    exact ⟨rfl, rfl⟩
  · rw [State.write, busTarget_lcd hlcd]
    rfl

/-! ## What one bus write leaves unchanged -/

/-- The registers a bus read may show that a write to `target` leaves as they were (R52, R72). -/
structure WriteKeeps (target : BusTarget) (s t : State) : Prop where
  sb : target ≠ .sb → t.sb = s.sb
  sc : target ≠ .sc → t.sc = s.sc
  counter : target ≠ .div → t.counter = s.counter
  tima : target ≠ .tima → target ≠ .div → target ≠ .tac → t.tima = s.tima
  tma : target ≠ .tma → t.tma = s.tma
  tac : target ≠ .tac → t.tac = s.tac
  ifBits : target ≠ .ifReg → target ≠ .sc → t.ifBits = s.ifBits
  ie : target ≠ .ie → t.ie = s.ie

theorem write_keeps (s : State) (addr : Word) (v : Byte) : WriteKeeps (busTarget addr) s (s.write addr v) := by
  unfold State.write
  cases busTarget addr with
  | sc =>
    rcases Nat.lt_or_ge v.toNat 128 with hv | hv
    · simp only [writeSc_of_lt s hv]
      constructor <;> simp
    · simp only [writeSc_of_le s hv]
      constructor <;> simp
  | div | tac =>
    simp only [State.writeDiv, State.writeTac]
    rw [State.edgeCheck_state]
    constructor <;> simp
  | _ => constructor <;> simp

/-- A bus write keeps every cell but the one its address stands for. -/
theorem write_keeps_cell (s : State) {stored : Word} (v : Byte) {cell : Nat} (h : home stored ≠ cell) :
    (s.write stored v).mem.readByte cell = s.mem.readByte cell := by
  rw [State.write_mem]
  split
  · rename_i written hw
    have hhome : home stored = written := selects_of_eq hw
    exact Memory.readByte_writeByte_other _ _ fun e => h (hhome.trans e.symm)
  · rfl

/-- A bus write changes the byte read at an address outside the PPU windows only where it touches it (R52, R72). -/
theorem busRead_write {s : State} {stored addr : Word} (v : Byte) (hwin : ¬ PpuWindow addr)
    (h : ¬ Touches stored addr) : busRead (s.write stored v) addr = busRead s addr := by
  have keeps := write_keeps s stored v
  have hne : stored ≠ addr := fun e => h (.inl (congrArg home e))
  have hat := selects_busTarget addr
  simp only [← read_fst, read_fst_eq_selectedByte]
  generalize busTarget addr = target at hat
  cases target with
  | rom cell => exact write_keeps_cell s v fun e => h (.inl (e.trans hat.symm))
  | ram cell => exact write_keeps_cell s v fun e => h (.inl (e.trans hat.symm))
  | vram | lcd => exact absurd hat hwin
  | unmapped => rfl
  | sb => exact keeps.sb fun e => hne ((selects_of_eq e).trans hat.symm)
  | sc => exact keeps.sc fun e => hne ((selects_of_eq e).trans hat.symm)
  | div =>
    have hcounter := keeps.counter fun e => hne ((selects_of_eq e).trans hat.symm)
    simp only [selectedByte, hcounter]
  | tima =>
    exact keeps.tima (fun e => hne ((selects_of_eq e).trans hat.symm))
      (fun e => h (.inr (.inr ⟨.inl (selects_of_eq e), hat⟩))) fun e => h (.inr (.inr ⟨.inr (selects_of_eq e), hat⟩))
  | tma => exact keeps.tma fun e => hne ((selects_of_eq e).trans hat.symm)
  | tac =>
    have htac := keeps.tac fun e => hne ((selects_of_eq e).trans hat.symm)
    simp only [selectedByte, htac, State.write_params]
  | ifReg =>
    have hif := keeps.ifBits (fun e => hne ((selects_of_eq e).trans hat.symm))
      fun e => h (.inr (.inl ⟨selects_of_eq e, hat⟩))
    simp only [selectedByte, hif]
  | ie => exact keeps.ie fun e => hne ((selects_of_eq e).trans hat.symm)

/-- Outside the PPU windows an address that stands for a RAM byte is a RAM or echo address. -/
theorem plainRam_of_home_eq {addr other : Word} (h : PlainRam addr) (hhome : home other = home addr) : PlainRam other := by
  unfold PlainRam at *
  unfold home at hhome
  split_ifs at hhome <;> omega

/-- A store to RAM is memory's own, so it touches nothing but the byte it stores (R72). -/
theorem not_touches_of_plainRam {addr other : Word} (h : PlainRam addr) (hhome : home other ≠ home addr) :
    ¬ Touches addr other := by
  rintro (hsame | ⟨rfl, -⟩ | ⟨rfl | rfl, -⟩)
  · exact hhome hsame.symm
  all_goals
    revert h
    unfold PlainRam
    decide

/-- Settles O42: the write is one of memory, and it touches no other byte. -/
theorem ramKeepsWhatIsWritten : Obligations.RamKeepsWhatIsWritten := by
  unfold Obligations.RamKeepsWhatIsWritten
  intro s addr other v hram hwf
  have hwrite : s.write addr v = { s with mem := s.mem.writeByte (home addr) v } := by
    rw [State.write, busTarget_ram hram]
  refine ⟨fun hsame => ?_, fun hother hwin => ?_, ?_⟩
  · rw [hwrite, State.read, busTarget_ram (plainRam_of_home_eq hram hsame), hsame]
    exact Memory.readByte_writeByte_same hwf (home addr) v
  · rw [read_fst, read_fst]
    exact busRead_write v hwin (not_touches_of_plainRam hram hother)
  · rw [hwrite]
    exact Memory.wf_writeByte hwf (home addr) v

end Sys2Proof
end

section
/-! PROOFS. Reads of ROM through a step: no bus write reaches a ROM cell, and nothing else of a step writes memory (R29,
R53). -/

namespace Sys2Proof

open Sys2Proof.Machine Sys2Proof.Claims

/-- Both states hold the same bytes of ROM. -/
def SameRom (s t : State) : Prop :=
  ∀ k < 0x8000, t.mem.readByte k = s.mem.readByte k

namespace SameRom

theorem of_mem {s t : State} (h : t.mem = s.mem) : SameRom s t := fun _ _ => by rw [h]

theorem trans {s t u : State} (h : SameRom s t) (h' : SameRom t u) : SameRom s u :=
  fun k hk => (h' k hk).trans (h k hk)

end SameRom

/-- Bus writes miss the cells of ROM, and the other accesses do not write memory. -/
theorem Accesses.sameRom {s t : State} (acc : Accesses s t) : SameRom s t := by
  induction acc with
  | refl => exact .of_mem rfl
  | read _ addr ih => exact ih.trans (.of_mem (State.read_mem _ addr))
  | write _ addr v ih => exact ih.trans fun _ hk => State.write_rom _ addr v hk
  | regs _ hu ih => exact ih.trans (.of_mem (by rw [hu]))

/-- An instruction reaches memory through its bus accesses alone. -/
theorem Effect.sameRom {i : Instr} {s t : State} (heff : Effect s i t) : SameRom s t := by
  cases heff with
  | plain acc => exact acc.sameRom
  | flags _ acc ht => exact acc.sameRom.trans (.of_mem (by rw [ht]))
  | reti acc ht => exact acc.sameRom.trans (.of_mem (by rw [ht]))
  | di ht | halt ht | stop ht => exact .of_mem (by rw [ht])

/-- S5 to S8 reach memory through the instruction alone. -/
theorem sameRom_of_runInstr {i : Instr} {s u : State} (h : runInstr i s = .next u) : SameRom s u := by
  obtain ⟨v, hv, hend⟩ := runInstr_cases h
  have hback : SameRom s s.haltBugBack := .of_mem (by rw [State.haltBugBack_state])
  have hexec : SameRom s v := hback.trans (effect_of_exec hv).sameRom
  obtain ⟨-, rfl⟩ | ⟨-, rfl⟩ := hend
  · exact hexec
  · exact hexec.trans (.of_mem (by rw [State.afterExec_state]))

/-- Trap entry reaches memory through the push alone. -/
theorem sameRom_takeInterrupt (s : State) (src : Source) : SameRom s (s.takeInterrupt src) := by
  unfold State.takeInterrupt
  have hcleared : SameRom s { s with ime := false, eiPending := false } := .of_mem rfl
  have hpush := hcleared.trans (Accesses.refl.push16 s.pc).sameRom
  exact hpush.trans (.of_mem (by simp))

/-- `Step()` keeps ROM, in each of the four ways it ends. -/
theorem sameRom_of_cpuStep {s u : State} (h : cpuStep s = .next u) : SameRom s u := by
  have hwake : SameRom s s.wake := .of_mem (by rw [State.wake_state])
  have hfetch : SameRom s s.wake.fetch.state := hwake.trans (.of_mem (by rw [State.fetch_state]))
  obtain ⟨src, -, rfl⟩ | ⟨-, -, rfl⟩ | ⟨-, -, -, rfl⟩ | ⟨-, -, i, -, hrun⟩ := cpuStep_cases h
  · exact hwake.trans (sameRom_takeInterrupt _ src)
  · exact hwake
  · exact hfetch
  · exact hfetch.trans (sameRom_of_runInstr hrun)

/-- Below 0x8000 a bus read gives the byte of ROM at the address (R53). -/
theorem read_rom (s : State) {addr : Word} (h : addr.toNat < 0x8000) : (s.read addr).1 = s.mem.readByte addr.toNat := by
  rw [State.read, busTarget_rom h]

/-- Settles O43: the host's turn, `Step()` and the ticks after it each keep the bytes of ROM. -/
theorem romNeverChanges : Obligations.RomNeverChanges := by
  unfold Obligations.RomNeverChanges
  intro s t hstep addr haddr
  have hlt : addr.toNat < 0x8000 := Nat.lt_succ_of_le haddr
  obtain ⟨-, u, hu, rfl⟩ := step_cases hstep
  have hhost : SameRom s s.hostPhase := .of_mem (by rw [State.hostPhase_state])
  have hticks : SameRom u (u.elapse u.cycles) := .of_mem (by rw [State.elapse_state])
  rw [read_rom _ hlt, read_rom _ hlt]
  exact (hhost.trans (sameRom_of_cpuStep hu)).trans hticks _ hlt

end Sys2Proof
end

section
/-! PROOFS. The memory frame of the 500 instructions: what a bus read shows after an instruction that stores to known addresses
only. -/

namespace Sys2Proof

open Sys2Proof.Machine Sys2Proof.Claims

/-! ## States that differ by stores to some addresses -/

/-- Outside the PPU windows a bus read does not show the collaborator's history. -/
theorem busRead_withPpu (s : State) (calls : List Config.PpuEvent) {addr : Word} (hwin : ¬ PpuWindow addr) :
    busRead { s with ppu := calls } addr = busRead s addr := by
  have hat := selects_busTarget addr
  simp only [← read_fst, read_fst_eq_selectedByte]
  generalize busTarget addr = target at hat
  cases target with
  | vram | lcd => exact absurd hat hwin
  | _ => rfl

/-- Outside the PPU windows, and where no store to an address in `W` reaches, the bus reads the same in both states. -/
def StoresWithin (W : Word → Prop) (s t : State) : Prop :=
  ∀ addr : Word, ¬ PpuWindow addr → (∀ stored : Word, W stored → ¬ Touches stored addr) → busRead t addr = busRead s addr

namespace StoresWithin

variable {W : Word → Prop} {s t u : State}

theorem refl : StoresWithin W s s := fun _ _ _ => rfl

/-- The registers, the flags and the engine's state are not on the bus. -/
theorem offBus (k : StoresWithin W s t) (h : busRead u = busRead t) : StoresWithin W s u := fun addr hwin hno =>
  (congrFun h addr).trans (k addr hwin hno)

theorem write (k : StoresWithin W s t) {stored : Word} (hw : W stored) (v : Byte) : StoresWithin W s (t.write stored v) :=
  fun addr hwin hno => (busRead_write v hwin (hno stored hw)).trans (k addr hwin hno)

theorem read (k : StoresWithin W s t) (a : Word) : StoresWithin W s (t.read a).2 := by
  intro addr hwin hno
  rw [State.read_state, busRead_withPpu t _ hwin]
  exact k addr hwin hno

variable (k : StoresWithin W s t)

include k

theorem finish (p : Word) (n : Nat) : StoresWithin W s (t.finish p n) := k.offBus rfl

theorem setReg (r : Reg8) (v : Byte) : StoresWithin W s (t.setReg r v) := k.offBus (by cases r <;> rfl)

theorem setReg16 (r : Reg16) (v : Word) : StoresWithin W s (t.setReg16 r v) := k.offBus (by cases r <;> rfl)

theorem setStk16 (r : Stk16) (v : Word) : StoresWithin W s (t.setStk16 r v) := k.offBus (by cases r <;> rfl)

theorem setSp (v : Word) : StoresWithin W s { t with sp := v } := k.offBus rfl

theorem setHl (v : Word) : StoresWithin W s (t.setHl v) := k.offBus rfl

theorem setFlags (z n h c : Bool) : StoresWithin W s (t.setFlags z n h c) := k.offBus rfl

theorem putFlags (o : AluOut) : StoresWithin W s (t.putFlags o) := k.offBus rfl

theorem imm8 : StoresWithin W s t.imm8.2 := k.read _

theorem imm16 : StoresWithin W s t.imm16.2 := (k.read _).read _

theorem readOpnd (x : Opnd) : StoresWithin W s (t.readOpnd x).2 := by
  cases x with
  | reg r => exact k
  | mhl => exact k.read _

theorem readSrc (x : Src8) : StoresWithin W s (t.readSrc x).2 := by
  cases x with
  | reg r => exact k
  | mhl => exact k.read _
  | d8 => exact k.imm8

theorem pop16 : StoresWithin W s t.pop16.2 := by
  rw [State.pop16_eq]
  exact ((k.read _).read _).setSp _

theorem push16 (v : Word) (hhigh : W (t.sp - 1)) (hlow : W (t.sp - 2)) : StoresWithin W s (t.push16 v) := by
  rw [State.push16_eq]
  exact (((k.setSp _).write hhigh _).setSp _).write hlow _

omit k

/-- A read-modify-write of an operand stores to the cell at HL where that is the operand (R95). -/
theorem rewriteOpnd (x : Opnd) (v : Byte) (hw : x = .mhl → W s.hl) :
    StoresWithin W s ((s.readOpnd x).2.writeOpnd x v) := by
  cases x with
  | reg r => exact refl.setReg r v
  | mhl =>
    have hhl : (s.read s.hl).2.hl = s.hl := by rw [State.read_state]; rfl
    exact (refl.read _).write (hhl.symm ▸ hw rfl) v

/-- A call pushes below the SP it found, since reading the immediate leaves SP (R255). -/
theorem imm16_push16 (v : Word) (hhigh : W (s.sp - 1)) (hlow : W (s.sp - 2)) :
    StoresWithin W s (s.imm16.2.push16 v) := by
  have hsp := State.imm16_sp s
  exact refl.imm16.push16 v (hsp.symm ▸ hhigh) (hsp.symm ▸ hlow)

end StoresWithin

/-! ## The stores of an instruction -/

/-- The statements' Imm16 gives the machine's word (R98). -/
theorem imm16_fst (s : State) : (Claims.imm16 s).1 = s.imm16.1 := by
  rw [State.imm16_eq]
  rfl

/-- Every instruction answers a next state, and what it stores is at the addresses `StoresTo` lists for it. -/
theorem exec_storesWithin (i : Instr) (s : State) : ∃ t, exec i s = .next t ∧ StoresWithin (StoresTo s i) s t := by
  have k {j : Instr} : StoresWithin (StoresTo s j) s s := .refl
  cases i using Instr.byFamily with
  | h_ldRR dst src => exact ⟨_, exec_ldRR dst src s, ((k.readSrc _).setReg _ _).finish _ _⟩
  | h_ldRM r => exact ⟨_, exec_ldRM r s, ((k.readSrc _).setReg _ _).finish _ _⟩
  | h_ldMR r => exact ⟨_, exec_ldMR r s, (k.write (.ldMR r) _).finish _ _⟩
  | h_ldRD8 r => exact ⟨_, exec_ldRD8 r s, ((k.readSrc _).setReg _ _).finish _ _⟩
  | h_alu op x => exact ⟨_, exec_alu op x s, (((k.readSrc x).setReg _ _).putFlags _).finish _ _⟩
  | h_incR r => exact ⟨_, exec_incR r s, ((StoresWithin.rewriteOpnd _ _ nofun).putFlags _).finish _ _⟩
  | h_decR r => exact ⟨_, exec_decR r s, ((StoresWithin.rewriteOpnd _ _ nofun).putFlags _).finish _ _⟩
  | h_ld16 r => exact ⟨_, exec_ld16 r s, (k.imm16.setReg16 _ _).finish _ _⟩
  | h_addHl r => exact ⟨_, exec_addHl r s, k.offBus rfl⟩
  | h_inc16 r => exact ⟨_, exec_inc16 r s, (k.setReg16 _ _).finish _ _⟩
  | h_dec16 r => exact ⟨_, exec_dec16 r s, (k.setReg16 _ _).finish _ _⟩
  | h_push r => exact ⟨_, exec_push r s, (k.push16 _ (.pushHigh r) (.pushLow r)).finish _ _⟩
  | h_pop r => exact ⟨_, exec_pop r s, (k.pop16.setStk16 _ _).finish _ _⟩
  | h_jpCc cc =>
    rw [exec_jpCc, jumpAbsIf]
    split <;> exact ⟨_, rfl, k.imm16.finish _ _⟩
  | h_jrCc cc =>
    rw [exec_jrCc, jumpRelIf]
    split <;> exact ⟨_, rfl, k.imm8.finish _ _⟩
  | h_callCc cc =>
    rw [exec_callCc, callAbsIf]
    split
    · rename_i htaken
      have hcc := (cond_iff_holds s cc).1 htaken
      exact ⟨_, rfl, (StoresWithin.imm16_push16 _ (.callCcHigh cc hcc) (.callCcLow cc hcc)).finish _ _⟩
    · exact ⟨_, rfl, k.imm16.finish _ _⟩
  | h_retCc cc =>
    rw [exec_retCc, returnIf]
    split
    · exact ⟨_, rfl, k.pop16.finish _ _⟩
    · exact ⟨_, rfl, k.finish _ _⟩
  | h_rst n => exact ⟨_, exec_rst n s, (k.push16 _ (.rstHigh n) (.rstLow n)).finish _ _⟩
  | h_rot op x => exact ⟨_, exec_rot op x s, ((StoresWithin.rewriteOpnd x _ fun hx => hx ▸ .rotMhl op).putFlags _).finish _ _⟩
  | h_bit b x => exact ⟨_, exec_bit b x s, ((k.readOpnd x).setFlags _ _ _ _).finish _ _⟩
  | h_res b x => exact ⟨_, exec_res b x s, (StoresWithin.rewriteOpnd x _ fun hx => hx ▸ .resMhl b).finish _ _⟩
  | h_set b x => exact ⟨_, exec_set b x s, (StoresWithin.rewriteOpnd x _ fun hx => hx ▸ .setMhl b).finish _ _⟩
  | h_nop => exact ⟨_, exec_nop s, k.finish _ _⟩
  | h_ldMbcA => exact ⟨_, exec_ldMbcA s, (k.write .ldMbcA _).finish _ _⟩
  | h_rlca => exact ⟨_, exec_rlca s, k.offBus rfl⟩
  | h_ldMa16Sp =>
    have hlow : StoresTo s .ldMa16Sp s.imm16.1 := imm16_fst s ▸ .ldMa16SpLow
    have hhigh : StoresTo s .ldMa16Sp (s.imm16.1 + 1) := imm16_fst s ▸ .ldMa16SpHigh
    exact ⟨_, exec_ldMa16Sp s, ((k.imm16.write hlow _).write hhigh _).finish _ _⟩
  | h_ldAMbc => exact ⟨_, exec_ldAMbc s, ((k.read _).setReg _ _).finish _ _⟩
  | h_rrca => exact ⟨_, exec_rrca s, k.offBus rfl⟩
  | h_stop =>
    rw [exec_stop, stopEngine]
    split <;> exact ⟨_, rfl, k.offBus rfl⟩
  | h_ldMdeA => exact ⟨_, exec_ldMdeA s, (k.write .ldMdeA _).finish _ _⟩
  | h_rla => exact ⟨_, exec_rla s, k.offBus rfl⟩
  | h_jrR8 => exact ⟨_, exec_jrR8 s, k.imm8.finish _ _⟩
  | h_ldAMde => exact ⟨_, exec_ldAMde s, ((k.read _).setReg _ _).finish _ _⟩
  | h_rra => exact ⟨_, exec_rra s, k.offBus rfl⟩
  | h_ldMhliA => exact ⟨_, exec_ldMhliA s, ((k.write .ldMhliA _).setHl _).finish _ _⟩
  | h_daa => exact ⟨_, exec_daa s, k.offBus rfl⟩
  | h_ldAMhli => exact ⟨_, exec_ldAMhli s, (((k.read _).setReg _ _).setHl _).finish _ _⟩
  | h_cpl => exact ⟨_, exec_cpl s, k.offBus rfl⟩
  | h_ldMhldA => exact ⟨_, exec_ldMhldA s, ((k.write .ldMhldA _).setHl _).finish _ _⟩
  | h_incMhl => exact ⟨_, exec_incMhl s, ((StoresWithin.rewriteOpnd _ _ fun _ => .incMhl).putFlags _).finish _ _⟩
  | h_decMhl => exact ⟨_, exec_decMhl s, ((StoresWithin.rewriteOpnd _ _ fun _ => .decMhl).putFlags _).finish _ _⟩
  | h_ldMhlD8 => exact ⟨_, exec_ldMhlD8 s, (k.imm8.write .ldMhlD8 _).finish _ _⟩
  | h_scf => exact ⟨_, exec_scf s, k.offBus rfl⟩
  | h_ldAMhld => exact ⟨_, exec_ldAMhld s, (((k.read _).setReg _ _).setHl _).finish _ _⟩
  | h_ccf => exact ⟨_, exec_ccf s, k.offBus rfl⟩
  | h_halt =>
    rw [exec_halt, haltEngine]
    split <;> exact ⟨_, rfl, k.offBus rfl⟩
  | h_jpA16 => exact ⟨_, exec_jpA16 s, k.imm16.finish _ _⟩
  | h_ret => exact ⟨_, exec_ret s, k.pop16.finish _ _⟩
  | h_callA16 => exact ⟨_, exec_callA16 s, (StoresWithin.imm16_push16 _ .callHigh .callLow).finish _ _⟩
  | h_reti => exact ⟨_, exec_reti s, k.pop16.offBus rfl⟩
  | h_ldhMa8A => exact ⟨_, exec_ldhMa8A s, (k.imm8.write .ldhMa8A _).finish _ _⟩
  | h_ldMcA => exact ⟨_, exec_ldMcA s, (k.write .ldMcA _).finish _ _⟩
  | h_addSpR8 => exact ⟨_, exec_addSpR8 s, ((k.imm8.setSp _).setFlags _ _ _ _).finish _ _⟩
  | h_jpHl => exact ⟨_, exec_jpHl s, k.finish _ _⟩
  | h_ldMa16A =>
    have haddr : StoresTo s .ldMa16A s.imm16.1 := imm16_fst s ▸ .ldMa16A
    exact ⟨_, exec_ldMa16A s, (k.imm16.write haddr _).finish _ _⟩
  | h_ldhAMa8 => exact ⟨_, exec_ldhAMa8 s, ((k.imm8.read _).setReg _ _).finish _ _⟩
  | h_ldAMc => exact ⟨_, exec_ldAMc s, ((k.read _).setReg _ _).finish _ _⟩
  | h_di => exact ⟨_, exec_di s, k.offBus rfl⟩
  | h_ldHlSpR8 => exact ⟨_, exec_ldHlSpR8 s, ((k.imm8.setHl _).setFlags _ _ _ _).finish _ _⟩
  | h_ldSpHl => exact ⟨_, exec_ldSpHl s, (k.setSp _).finish _ _⟩
  | h_ldAMa16 => exact ⟨_, exec_ldAMa16 s, ((k.imm16.read _).setReg _ _).finish _ _⟩
  | h_ei => exact ⟨_, exec_ei s, k.finish _ _⟩

/-- Settles O31: the frame of the instruction's stores, read through the bus. -/
theorem storesTouchOnlyTheirAddress : Obligations.StoresTouchOnlyTheirAddress := by
  unfold Obligations.StoresTouchOnlyTheirAddress
  intro i s t h addr hwin hno
  obtain ⟨u, hu, hframe⟩ := exec_storesWithin i s
  injection hu.symm.trans h with hut
  subst hut
  rw [read_fst, read_fst]
  exact hframe addr hwin hno

end Sys2Proof
end

section
/-! PROOFS. Decoder and encoder are inverse to each other (spec/30_encoding.md R90, R100 to R108). -/

namespace Sys2Proof

open Sys2Proof.Machine Sys2Proof.Claims

/-! ## From the byte to the instruction: the fields of the byte are those of the opcode table -/

/-- Quadrant 0 against the opcode table (R101). -/
theorem opcode_decodeQuad0 : ∀ y < 8, ∀ z < 8, (decodeQuad0 y z).opcode = 8 * y + z := by decide

/-- Quadrant 1 against the opcode table (R102). -/
theorem opcode_ldInstr :
    ∀ y < 8, ∀ z < 8, ((Opnd.ofSel y).ldInstr (Opnd.ofSel z)).opcode = 0x40 + 8 * y + z := by decide

/-- Quadrant 2 against the opcode table (R103). -/
theorem opcode_alu :
    ∀ y < 8, ∀ z < 8, (Instr.alu (AluOp.ofSel y) (Opnd.ofSel z).toSrc).opcode = 0x80 + 8 * y + z := by decide

/-- Quadrant 3 against the opcode table (R104). -/
theorem opcode_decodeQuad3 :
    ∀ y < 8, ∀ z < 8, ∀ i ∈ decodeQuad3 y z, i.opcode = 0xC0 + 8 * y + z := by decide

/-- Group 0 of the prefixed instructions against the opcode table (R105). -/
theorem opcode_rot :
    ∀ y < 8, ∀ z < 8, (Instr.rot (RotOp.ofSel y) (Opnd.ofSel z)).opcode = 0xCB00 + 8 * y + z := by decide

/-- Group 1 of the prefixed instructions against the opcode table (R105). -/
theorem opcode_bit :
    ∀ y < 8, ∀ z < 8, (Instr.bit (Fin.ofNat 8 y) (Opnd.ofSel z)).opcode = 0xCB40 + 8 * y + z := by decide

/-- Group 2 of the prefixed instructions against the opcode table (R105). -/
theorem opcode_res :
    ∀ y < 8, ∀ z < 8, (Instr.res (Fin.ofNat 8 y) (Opnd.ofSel z)).opcode = 0xCB80 + 8 * y + z := by decide

/-- Group 3 of the prefixed instructions against the opcode table (R105). -/
theorem opcode_set :
    ∀ y < 8, ∀ z < 8, (Instr.set (Fin.ofNat 8 y) (Opnd.ofSel z)).opcode = 0xCBC0 + 8 * y + z := by decide

theorem quadrant_cases (op : Byte) :
    op.toNat / 64 = 0 ∨ op.toNat / 64 = 1 ∨ op.toNat / 64 = 2 ∨ op.toNat / 64 = 3 := by
  have := op.isLt
  omega

theorem opcode_of_decodeUnprefixed {op : Byte} {i : Instr} (h : decodeUnprefixed op = some i) :
    i.opcode = op.toNat := by
  have hy : op.toNat / 8 % 8 < 8 := Nat.mod_lt _ (by decide)
  have hz : op.toNat % 8 < 8 := Nat.mod_lt _ (by decide)
  obtain hx | hx | hx | hx := quadrant_cases op <;> simp only [decodeUnprefixed, hx, Option.some.injEq] at h
  · rw [← h, opcode_decodeQuad0 _ hy _ hz]; omega
  · rw [← h, opcode_ldInstr _ hy _ hz]; omega
  · rw [← h, opcode_alu _ hy _ hz]; omega
  · rw [opcode_decodeQuad3 _ hy _ hz i h]; omega

theorem opcode_decodePrefixed (op : Byte) : (decodePrefixed op).opcode = 0xCB00 + op.toNat := by
  have hy : op.toNat / 8 % 8 < 8 := Nat.mod_lt _ (by decide)
  have hz : op.toNat % 8 < 8 := Nat.mod_lt _ (by decide)
  obtain hx | hx | hx | hx := quadrant_cases op <;> simp only [decodePrefixed, hx]
  · rw [opcode_rot _ hy _ hz]; omega
  · rw [opcode_bit _ hy _ hz]; omega
  · rw [opcode_res _ hy _ hz]; omega
  · rw [opcode_set _ hy _ hz]; omega

/-- The bytes from which `decode op prefixed` is asked (R100). -/
def bytesRead (op : Byte) (prefixed : Bool) : List Byte :=
  if prefixed then [0xCB, op] else [op]

theorem opcodeBytes_of_decode {op : Byte} {prefixed : Bool} {i : Instr} (h : decode op prefixed = some i) :
    i.opcodeBytes = bytesRead op prefixed := by
  have hop := op.isLt
  cases prefixed with
  | false =>
    have hcode : i.opcode = op.toNat := opcode_of_decodeUnprefixed h
    rw [Instr.opcodeBytes, if_pos (by omega), hcode, BitVec.ofNat_toNat, BitVec.setWidth_eq]
    rfl
  | true =>
    obtain rfl : decodePrefixed op = i := Option.some.inj h
    have hpre : (0xCB00 + op.toNat) / 0x100 = 0xCB := by omega
    have hsub : BitVec.ofNat 8 (0xCB00 + op.toNat) = op := BitVec.eq_of_toNat_eq (by rw [BitVec.toNat_ofNat]; omega)
    rw [Instr.opcodeBytes, if_neg (by rw [opcode_decodePrefixed]; omega), opcode_decodePrefixed, hpre, hsub]
    rfl

/-! ## From the instruction to the byte -/

/-- The low byte of an instruction's opcode decodes to the instruction, as a sub-opcode exactly behind the prefix (R108). -/
theorem decode_opcode (i : Instr) : decode (BitVec.ofNat 8 i.opcode) (Nat.ble 0x100 i.opcode) = some i := by
  cases i using Instr.byFamily with
  | h_ldRR dst src => cases dst <;> cases src <;> rfl
  | h_ldRM r | h_ldMR r | h_ldRD8 r | h_incR r | h_decR r => cases r <;> rfl
  | h_alu op x =>
    cases x with
    | reg r => cases op <;> cases r <;> rfl
    | mhl | d8 => cases op <;> rfl
  | h_ld16 r | h_addHl r | h_inc16 r | h_dec16 r | h_push r | h_pop r => cases r <;> rfl
  | h_jpCc cc | h_jrCc cc | h_callCc cc | h_retCc cc => cases cc <;> rfl
  | h_rst t => revert t; decide
  | h_rot op x =>
    cases x with
    | reg r => cases op <;> cases r <;> rfl
    | mhl => cases op <;> rfl
  | h_bit b x | h_res b x | h_set b x =>
    cases x with
    | reg r => cases r <;> revert b <;> decide
    | mhl => revert b; decide
  | _ => rfl

theorem bytesRead_inj {op op' : Byte} {p p' : Bool} (h : bytesRead op p = bytesRead op' p') : op = op' ∧ p = p' := by
  cases p <;> cases p' <;> simp_all [bytesRead]

theorem decode_eq_some_iff (op : Byte) (prefixed : Bool) (i : Instr) :
    decode op prefixed = some i ↔ i.opcodeBytes = bytesRead op prefixed := by
  refine ⟨opcodeBytes_of_decode, fun h => ?_⟩
  obtain ⟨rfl, rfl⟩ := bytesRead_inj (h.symm.trans (opcodeBytes_of_decode (decode_opcode i)))
  exact decode_opcode i

/-! ## The byte list of an instruction -/

theorem takeOperands_append {c : CodedInstr} (hwf : c.wf = true) (rest : List Byte) :
    takeOperands c.instr (c.operands ++ rest) = .ok (c, rest) := by
  have hlen : c.instr.operandBytes = c.operands.length := (beq_iff_eq.mp hwf).symm
  rw [takeOperands, if_neg (by simp [hlen]), hlen, List.take_left, List.drop_left]

theorem decodeBytes_bytesRead {op : Byte} {prefixed : Bool} {i : Instr} (h : decode op prefixed = some i)
    (rest : List Byte) : decodeBytes (bytesRead op prefixed ++ rest) = takeOperands i rest := by
  cases prefixed with
  | true => cases h; rfl
  | false =>
    have hcb : op ≠ 0xCB := fun hop => by subst hop; cases h
    change (if op = 0xCB then _ else _) = _
    rw [if_neg hcb, h]
    rfl

/-- Settles O36: the opcode bytes decode to the instruction, and its format says how many operand bytes are taken. -/
theorem decodeOfEncodeIsTheInstruction : Obligations.DecodeOfEncodeIsTheInstruction := by
  unfold Obligations.DecodeOfEncodeIsTheInstruction
  intro c rest hwf
  have hdec := decode_opcode c.instr
  rw [encode, List.append_assoc, opcodeBytes_of_decode hdec, decodeBytes_bytesRead hdec, takeOperands_append hwf]

/-- R106, and the prefix byte, which R100 never asks for. -/
theorem decode_unprefixed_eq_none_iff : ∀ op : Byte, decode op false = none ↔ op = 0xCB ∨ op ∈ unassigned := by decide

/-- Settles O35: both directions of the opcode table, and the bytes that have no row in it. -/
theorem decodeInvertsTheOpcodeTable : Obligations.DecodeInvertsTheOpcodeTable := by
  unfold Obligations.DecodeInvertsTheOpcodeTable
  intro op i
  exact ⟨decode_eq_some_iff op false i, decode_eq_some_iff op true i, decode_unprefixed_eq_none_iff op,
    Option.some_ne_none _⟩

theorem decodeBytes_of_encode {c : CodedInstr} {bytes : List Byte} (hwf : c.wf = true) (h : encode c = bytes) :
    decodeBytes bytes = .ok (c, []) := by
  rw [← h, ← List.append_nil (encode c)]
  exact decodeOfEncodeIsTheInstruction c [] hwf

/-- Settles O37: each word is the encoding of its well-formed instruction. -/
theorem sampleWordsDecode : Obligations.SampleWordsDecode := by
  unfold Obligations.SampleWordsDecode
  and_intros <;> exact decodeBytes_of_encode rfl rfl

end Sys2Proof
end


section
/-! PROOFS. The 8-bit loads (spec/40_load8.md R120 to R138): what the shared load and store operations answer, the row of an
unprefixed instruction in the opcode table, and the statements form by form. -/

namespace Sys2Proof

open Sys2Proof.Machine Sys2Proof.Claims

/-! ## The row of an unprefixed instruction: its byte and its default cost (R91, R380) -/

/-- An unprefixed instruction is its opcode's byte, and costs by default what the table has at that byte. -/
theorem costs_and_byte0_of_opcode {i : Instr} {op k : Nat} (hop : i.opcode = op) (hlt : op < 0x100)
    (hk : unprefixedCycles.getD op 0 = k) (p : Config.Params) : Costs p i k ∧ Byte0 op i := by
  subst hop
  have hunprefixed : Nat.ble 0x100 i.opcode = false := Bool.eq_false_iff.mpr (by simp [hlt])
  have hdefault : i.defaultCycles = k := by rw [Instr.defaultCycles, if_pos hlt, hk]
  refine ⟨fun hp => (cost_of_default hp i).trans hdefault, ?_⟩
  have hdec := decode_opcode i
  rwa [hunprefixed] at hdec

theorem row_ldRR (p : Config.Params) (dst src : Reg8) :
    Costs p (Instr.ldRR dst src) 4 ∧ Byte0 (0x40 + 8 * sel dst + sel src) (Instr.ldRR dst src) := by
  cases dst <;> cases src <;> exact costs_and_byte0_of_opcode rfl (by decide) rfl p

theorem row_ldRM (p : Config.Params) (dst : Reg8) :
    Costs p (Instr.ldRM dst) 8 ∧ Byte0 (0x46 + 8 * sel dst) (Instr.ldRM dst) := by
  cases dst <;> exact costs_and_byte0_of_opcode rfl (by decide) rfl p

theorem row_ldRD8 (p : Config.Params) (dst : Reg8) :
    Costs p (Instr.ldRD8 dst) 8 ∧ Byte0 (0x06 + 8 * sel dst) (Instr.ldRD8 dst) := by
  cases dst <;> exact costs_and_byte0_of_opcode rfl (by decide) rfl p

theorem row_ldMR (p : Config.Params) (src : Reg8) :
    Costs p (Instr.ldMR src) 8 ∧ Byte0 (0x70 + sel src) (Instr.ldMR src) := by
  cases src <;> exact costs_and_byte0_of_opcode rfl (by decide) rfl p

/-! ## The immediates and the step of HL -/

/-- The two bus reads of the statements are those of the model (R98). -/
theorem imm16_eq_claims (s : State) : s.imm16 = Claims.imm16 s := State.imm16_eq s

theorem add_one_eq_ofNat (w : Word) : w + 1 = BitVec.ofNat 16 (w.toNat + 1) := by
  rw [BitVec.ofNat_add, BitVec.ofNat_toNat, BitVec.setWidth_eq]
  rfl

theorem sub_one_eq_ofInt (w : Word) : w + (-1) = BitVec.ofInt 16 ((w.toNat : Int) - 1) := by
  rw [Int.sub_eq_add_neg, BitVec.ofInt_add, BitVec.ofInt_natCast, BitVec.ofNat_toNat, BitVec.setWidth_eq]
  rfl

/-! ## What the shared operations answer -/

/-- A register load, its operand in the statements' words (R120, R121, R123). -/
theorem loadReg_eq (i : Instr) (dst : Reg8) (src : Src8) (s : State) : loadReg i dst src s =
    .next (done ((source s src).2.setReg dst (source s src).1) (s.pc + sourceLength src) (s.params.cost i)) := by
  cases src <;> rfl

/-- A load of A from the state `t` after reading the immediates, which leave PC and the costs of `s` (R98). -/
theorem loadA_eq {s t : State} (hpc : t.pc = s.pc) (hparams : t.params = s.params) (i : Instr) (addr len : Word) :
    loadA i addr len t =
      .next (done { (t.read addr).2 with a := (t.read addr).1 } (s.pc + len) (s.params.cost i)) := by
  rw [← hpc, ← hparams]
  rfl

/-- A store from the state `t` after reading the immediates, which leave PC and the costs of `s` (R98). -/
theorem storeByte_eq {s t : State} (hpc : t.pc = s.pc) (hparams : t.params = s.params) (i : Instr) (addr len : Word)
    (v : Byte) : storeByte i addr v len t = .next (done (t.write addr v) (s.pc + len) (s.params.cost i)) := by
  rw [← hpc, ← hparams]
  rfl

/-- A stored at HL, then HL stepped to `v` (R135, R136). -/
theorem storeAStepHl_eq {s : State} {delta v : Word} (hv : s.hl + delta = v) (i : Instr) : storeAStepHl i delta s =
    .next (done { s.write s.hl s.a with h := high v, l := low v } (s.pc + 1) (s.params.cost i)) := by
  subst hv
  rfl

/-- A loaded from HL, then HL stepped to `v` (R137, R138). -/
theorem loadAStepHl_eq {s : State} {delta v : Word} (hv : s.hl + delta = v) (i : Instr) : loadAStepHl i delta s =
    .next (done { (s.read s.hl).2 with a := (s.read s.hl).1, h := high v, l := low v } (s.pc + 1)
      (s.params.cost i)) := by
  subst hv
  rfl

/-! ## The statements -/

/-- Settles O2: the register form of `loadReg`. -/
theorem loadRegisterFromRegister : Obligations.LoadRegisterFromRegister := by
  unfold Obligations.LoadRegisterFromRegister
  intro dst src s
  exact ⟨(exec_ldRR dst src s).trans (loadReg_eq _ _ _ _), row_ldRR s.params dst src⟩

/-- Settles O3: the memory form of `loadReg`. -/
theorem loadRegisterFromMemory : Obligations.LoadRegisterFromMemory := by
  unfold Obligations.LoadRegisterFromMemory
  intro dst s
  exact ⟨(exec_ldRM dst s).trans (loadReg_eq _ _ _ _), row_ldRM s.params dst⟩

/-- Settles O4: the immediate form of `loadReg`. -/
theorem loadRegisterImmediate : Obligations.LoadRegisterImmediate := by
  unfold Obligations.LoadRegisterImmediate
  intro dst s
  exact ⟨(exec_ldRD8 dst s).trans (loadReg_eq _ _ _ _), row_ldRD8 s.params dst⟩

/-- Settles O5: `loadA` at the five addresses, from the state after the immediates. -/
theorem loadAccumulatorIndirect : Obligations.LoadAccumulatorIndirect := by
  unfold Obligations.LoadAccumulatorIndirect
  intro s
  rw [← imm16_eq_claims]
  refine ⟨
    ⟨(exec_ldAMbc s).trans (loadA_eq rfl rfl _ _ _), ?_⟩,
    ⟨(exec_ldAMde s).trans (loadA_eq rfl rfl _ _ _), ?_⟩,
    ⟨(exec_ldAMa16 s).trans (loadA_eq s.imm16_pc s.imm16_params _ _ _), ?_⟩,
    ⟨(exec_ldhAMa8 s).trans (loadA_eq s.imm8_pc s.imm8_params _ _ _), ?_⟩,
    ⟨(exec_ldAMc s).trans (loadA_eq rfl rfl _ _ _), ?_⟩⟩
  all_goals exact costs_and_byte0_of_opcode rfl (by decide) rfl _

/-- Settles O6: `storeByte` at the seven addresses, from the state after the immediates. -/
theorem storeByteForms : Obligations.StoreByteForms := by
  unfold Obligations.StoreByteForms
  intro s
  rw [← imm16_eq_claims]
  refine ⟨
    fun r => ⟨(exec_ldMR r s).trans (storeByte_eq rfl rfl _ _ _ _), row_ldMR s.params r⟩,
    ⟨(exec_ldMhlD8 s).trans (storeByte_eq s.imm8_pc s.imm8_params _ _ _ _), ?_⟩,
    ⟨(exec_ldMbcA s).trans (storeByte_eq rfl rfl _ _ _ _), ?_⟩,
    ⟨(exec_ldMdeA s).trans (storeByte_eq rfl rfl _ _ _ _), ?_⟩,
    ⟨(exec_ldMa16A s).trans (storeByte_eq s.imm16_pc s.imm16_params _ _ _ _), ?_⟩,
    ⟨(exec_ldhMa8A s).trans (storeByte_eq s.imm8_pc s.imm8_params _ _ _ _), ?_⟩,
    ⟨(exec_ldMcA s).trans (storeByte_eq rfl rfl _ _ _ _), ?_⟩⟩
  all_goals exact costs_and_byte0_of_opcode rfl (by decide) rfl _

/-- Settles O7: the four stepping forms, HL stepped modulo 2^16 by the two facts about words. -/
theorem loadStoreStepHl : Obligations.LoadStoreStepHl := by
  unfold Obligations.LoadStoreStepHl
  intro s up down
  have hup : s.hl + 1 = up := add_one_eq_ofNat s.hl
  have hdown : s.hl + (-1) = down := sub_one_eq_ofInt s.hl
  refine ⟨
    ⟨(exec_ldMhliA s).trans (storeAStepHl_eq hup _), ?_⟩,
    ⟨(exec_ldMhldA s).trans (storeAStepHl_eq hdown _), ?_⟩,
    ⟨(exec_ldAMhli s).trans (loadAStepHl_eq hup _), ?_⟩,
    ⟨(exec_ldAMhld s).trans (loadAStepHl_eq hdown _), ?_⟩⟩
  all_goals exact costs_and_byte0_of_opcode rfl (by decide) rfl _

end Sys2Proof
end

section
/-! PROOFS. The 16-bit loads and the stack (spec/41_load16_stack.md R150 to R158): the instructions form by form, and what a
push and the pop after it do where the stack is plain RAM. -/

namespace Sys2Proof

open Sys2Proof.Machine Sys2Proof.Claims

/-! ## The rows of the opcode table -/

theorem row_ld16 (p : Config.Params) (r : Reg16) :
    Costs p (Instr.ld16 r) 12 ∧ Byte0 (0x01 + 16 * sel16 r) (Instr.ld16 r) := by
  cases r <;> exact costs_and_byte0_of_opcode rfl (by decide) rfl p

theorem row_push (p : Config.Params) (r : Stk16) :
    Costs p (Instr.push r) 16 ∧ Byte0 (0xC5 + 16 * selStk r) (Instr.push r) := by
  cases r <;> exact costs_and_byte0_of_opcode rfl (by decide) rfl p

theorem row_pop (p : Config.Params) (r : Stk16) :
    Costs p (Instr.pop r) 12 ∧ Byte0 (0xC1 + 16 * selStk r) (Instr.pop r) := by
  cases r <;> exact costs_and_byte0_of_opcode rfl (by decide) rfl p

/-! ## What the shared operations answer, in the statements' words -/

/-- A 16-bit immediate load (R152). -/
theorem loadImm16_eq (i : Instr) (dst : Reg16) (s : State) : loadImm16 i dst s =
    .next (done ((imm16 s).2.setReg16 dst (imm16 s).1) (s.pc + 3) (s.params.cost i)) := by
  rw [← imm16_eq_claims]
  rfl

/-- The store of SP, low byte first (R153). -/
theorem storeSp_eq (i : Instr) (s : State) : storeSp i s =
    .next (done (((imm16 s).2.write (imm16 s).1 (low s.sp)).write ((imm16 s).1 + 1) (high s.sp)) (s.pc + 3)
      (s.params.cost i)) := by
  rw [← imm16_eq_claims]
  rfl

/-- SP moved by a signed byte is the signed sum modulo 2^16 (R214). -/
theorem add_sext16_eq_ofInt (w : Word) (e : Byte) : w + sext16 e = BitVec.ofInt 16 ((w.toNat : Int) + e.toInt) := by
  rw [BitVec.ofInt_add, BitVec.ofInt_natCast, BitVec.ofNat_toNat, BitVec.setWidth_eq]
  rfl

/-- SP set to the sum `o` of SP and the immediate (R213). -/
theorem addToSp_eq {s : State} {o : AddOut} (ho : spOffset s.sp (imm8 s).1 = o) (i : Instr) : addToSp i s =
    .next (done { (imm8 s).2 with sp := o.result, zf := false, nf := false, hf := o.h, cf := o.c } (s.pc + 2)
      (s.params.cost i)) := by
  subst ho
  rfl

/-- HL set to the sum `o` of SP and the immediate (R155). -/
theorem loadHlSpOffset_eq {s : State} {o : AddOut} (ho : spOffset s.sp (imm8 s).1 = o) (i : Instr) : loadHlSpOffset i s =
    .next (done { (imm8 s).2 with
      h := high o.result, l := low o.result, zf := false, nf := false, hf := o.h, cf := o.c } (s.pc + 2)
      (s.params.cost i)) := by
  subst ho
  rfl

/-- The two bus writes of the statements are those of the model (R150). -/
theorem push16_eq_pushed (s : State) (v : Word) : s.push16 v = pushed s (high v) (low v) := State.push16_eq s v

/-- The two bus reads of the statements are those of the model (R151). -/
theorem pop16_eq_popped (s : State) : s.pop16 = popped s := State.pop16_eq s

/-! ## The statements form by form -/

/-- Settles O8: an immediate load, two bus writes of SP, and a copy. -/
theorem loadSixteenBit : Obligations.LoadSixteenBit := by
  unfold Obligations.LoadSixteenBit
  intro s
  refine ⟨fun r => ⟨(exec_ld16 r s).trans (loadImm16_eq _ r s), row_ld16 s.params r⟩,
    ⟨(exec_ldMa16Sp s).trans (storeSp_eq _ s), ?_⟩, ⟨exec_ldSpHl s, ?_⟩⟩
  all_goals exact costs_and_byte0_of_opcode rfl (by decide) rfl _

/-- Settles O9: the model's flags are the statement's, and its sign-extended sum is the signed one. -/
theorem signedSpOffset : Obligations.SignedSpOffset := by
  unfold Obligations.SignedSpOffset
  intro s e r h c
  have ho : spOffset s.sp e = ⟨r, h, c⟩ := by
    rw [spOffset, add_sext16_eq_ofInt]
  refine ⟨⟨(exec_addSpR8 s).trans (addToSp_eq ho _), ?_⟩, ⟨(exec_ldHlSpR8 s).trans (loadHlSpOffset_eq ho _), ?_⟩⟩
  all_goals exact costs_and_byte0_of_opcode rfl (by decide) rfl _

/-- Settles O10: `Push16` of the pair. -/
theorem pushWritesHighByteFirst : Obligations.PushWritesHighByteFirst := by
  unfold Obligations.PushWritesHighByteFirst
  intro r s
  rw [exec_push, pushPair, push16_eq_pushed]
  exact ⟨rfl, row_push s.params r⟩

/-- Settles O11: `Pop16` into the pair. -/
theorem popReadsLowByteFirst : Obligations.PopReadsLowByteFirst := by
  unfold Obligations.PopReadsLowByteFirst
  intro r s
  rw [exec_pop, popPair, pop16_eq_popped]
  exact ⟨rfl, row_pop s.params r⟩

/-! ## The stack in plain RAM -/

theorem read_plainRam (s : State) {addr : Word} (h : PlainRam addr) :
    s.read addr = (s.mem.readByte (home addr), s) := by
  rw [State.read, busTarget_ram h]

theorem write_plainRam (s : State) {addr : Word} (h : PlainRam addr) (v : Byte) :
    s.write addr v = { s with mem := s.mem.writeByte (home addr) v } := by
  rw [State.write, busTarget_ram h]

/-- Memory after a push in plain RAM: the high byte stored, then the low byte. -/
def pushedMem (s : State) (v : Word) : Memory :=
  (s.mem.writeByte (home (s.sp - 1)) (hiByte v)).writeByte (home (s.sp - 2)) (loByte v)

theorem push16_plainRam {s : State} (hhigh : PlainRam (s.sp - 1)) (hlow : PlainRam (s.sp - 2)) (v : Word) :
    s.push16 v = { s with sp := s.sp - 2, mem := pushedMem s v } := by
  rw [State.push16_eq, write_plainRam _ hhigh, write_plainRam _ hlow]
  rfl

theorem pop16_plainRam {s : State} (hlow : PlainRam s.sp) (hhigh : PlainRam (s.sp + 1)) : s.pop16 =
    (mkWord (s.mem.readByte (home (s.sp + 1))) (s.mem.readByte (home s.sp)), { s with sp := s.sp + 2 }) := by
  rw [State.pop16_eq, read_plainRam _ hlow, read_plainRam _ hhigh]

/-- An address of plain RAM and the one below it stand for different bytes, also across an end of the echo (R57). -/
theorem home_sub_one_ne {sp : Word} (hhigh : PlainRam (sp - 1)) : home (sp - 1) ≠ home (sp - 2) := by
  have hnext : (sp - 1).toNat = (sp - 2).toNat + 1 := by
    unfold PlainRam at hhigh
    bv_omega
  unfold home
  rw [hnext]
  split_ifs <;> omega

/-- `Pop16()` after `Push16(v)` in plain RAM gives `v` back and SP as it was (R150, R151); the end of the push in between writes
PC and the T-cycles only. -/
theorem pop16_finish_push16 {s : State} (hwf : s.mem.wf) (hhigh : PlainRam (s.sp - 1)) (hlow : PlainRam (s.sp - 2))
    (v pc : Word) (k : Nat) : ((s.push16 v).finish pc k).pop16 =
      (v, { s with mem := pushedMem s v, pc := pc, cycles := k }) := by
  have hone : s.sp - 2 + 1 = s.sp - 1 := by bv_omega
  have htwo : s.sp - 2 + 2 = s.sp := by bv_omega
  have hhi : (pushedMem s v).readByte (home (s.sp - 1)) = hiByte v := by
    rw [pushedMem, Memory.readByte_writeByte_other _ _ (home_sub_one_ne hhigh),
      Memory.readByte_writeByte_same hwf]
  have hlo : (pushedMem s v).readByte (home (s.sp - 2)) = loByte v :=
    Memory.readByte_writeByte_same (Memory.wf_writeByte hwf _ _) _ _
  rw [push16_plainRam hhigh hlow, pop16_plainRam hlow (hone.symm ▸ hhigh)]
  simp only [State.finish, hone, htwo, hhi, hlo, mkWord_hiByte_loByte]

/-- The low bits of a word are those of its low byte (R11). -/
theorem getLsbD_mkWord_of_lt (hi lo : Byte) {k : Nat} (hk : k < 8) : (mkWord hi lo).getLsbD k = lo.getLsbD k :=
  BitVec.getLsbD_append.trans (if_pos hk)

/-- The four flags stand in bits 7 to 4 of F (R12). -/
theorem getLsbD_f (s : State) : s.f.getLsbD 7 = s.zf ∧ s.f.getLsbD 6 = s.nf ∧ s.f.getLsbD 5 = s.hf
    ∧ s.f.getLsbD 4 = s.cf := by
  unfold State.f
  generalize s.zf = z, s.nf = n, s.hf = h, s.cf = c
  revert z n h c
  decide

/-- Writing back AF changes nothing: the low nibble that is dropped holds no flag (R158). -/
theorem setAf_af (s : State) : s.setAf s.af = s := by
  obtain ⟨hz, hn, hh, hc⟩ := getLsbD_f s
  have hbit {k : Nat} (hk : k < 8) : s.af.getLsbD k = s.f.getLsbD k := getLsbD_mkWord_of_lt s.a s.f hk
  have ha : hiByte s.af = s.a := hiByte_mkWord s.a s.f
  rw [State.setAf, ha, hbit (by decide), hbit (by decide), hbit (by decide), hbit (by decide), hz, hn, hh, hc]

/-- Writing back the value of a stack pair changes nothing (R96). -/
theorem setStk16_eq_self {s : State} {r : Stk16} {v : Word} (hv : s.getStk16 r = v) : s.setStk16 r v = s := by
  subst hv
  cases r with
  | bc => simp [State.setStk16, State.getStk16, State.bc]
  | de => simp [State.setStk16, State.getStk16, State.de]
  | hl => simp [State.setStk16, State.getStk16, State.setHl, State.hl]
  | af => exact setAf_af s

/-- A stack pair is read from the registers and flags alone. -/
theorem getStk16_withMem (s : State) (r : Stk16) (m : Memory) (pc : Word) (k : Nat) :
    State.getStk16 { s with mem := m, pc := pc, cycles := k } r = s.getStk16 r := by
  cases r <;> rfl

/-- Settles O12: the pop reads back the pair's own value, and writing that changes nothing. -/
theorem pushThenPopRestores : Obligations.PushThenPopRestores := by
  unfold Obligations.PushThenPopRestores
  intro r s hwf hhigh hlow
  refine ⟨_, _, exec_push r s, exec_pop r _, ?_⟩
  rw [pop16_finish_push16 hwf hhigh hlow, setStk16_eq_self (getStk16_withMem s r _ _ _)]
  exact ⟨rfl, rfl, rfl, rfl, rfl⟩

end Sys2Proof
end


section
/-! PROOFS. 8-bit arithmetic and logic (spec/42_alu8.md R170 to R203): the results and flags in the statements' numbers, what the
shared operations answer, the statements form by form, and packed BCD arithmetic through DAA. -/

namespace Sys2Proof

open Sys2Proof.Machine Sys2Proof.Claims

/-! ## The rows of the opcode table -/

/-- The selector of an accumulator operation (R99). -/
def selAlu : AluOp → Nat
  | .add => 0 | .adc => 1 | .sub => 2 | .sbc => 3 | .and => 4 | .xor => 5 | .or => 6 | .cp => 7

theorem row_alu (p : Config.Params) (op : AluOp) (x : Src8) :
    Costs p (Instr.alu op x) (sourceCost x) ∧ Byte0 (sourceByte (selAlu op) x) (Instr.alu op x) := by
  cases x with
  | reg r => cases op <;> cases r <;> exact costs_and_byte0_of_opcode rfl (by decide) rfl p
  | mhl => cases op <;> exact costs_and_byte0_of_opcode rfl (by decide) rfl p
  | d8 => cases op <;> exact costs_and_byte0_of_opcode rfl (by decide) rfl p

theorem row_incR (p : Config.Params) (r : Reg8) :
    Costs p (Instr.incR r) 4 ∧ Byte0 (0x04 + 8 * sel r) (Instr.incR r) := by
  cases r <;> exact costs_and_byte0_of_opcode rfl (by decide) rfl p

theorem row_decR (p : Config.Params) (r : Reg8) :
    Costs p (Instr.decR r) 4 ∧ Byte0 (0x05 + 8 * sel r) (Instr.decR r) := by
  cases r <;> exact costs_and_byte0_of_opcode rfl (by decide) rfl p

/-! ## Byte arithmetic as arithmetic of numbers modulo 256 -/

theorem ofInt_toNat (v : Byte) : BitVec.ofInt 8 v.toNat = v := by
  rw [BitVec.ofInt_natCast, BitVec.ofNat_toNat, BitVec.setWidth_eq]

theorem add_ofNat_eq_ofInt (v : Byte) (n : Nat) : v + BitVec.ofNat 8 n = BitVec.ofInt 8 ((v.toNat : Int) + n) := by
  rw [BitVec.ofInt_add, ofInt_toNat, BitVec.ofInt_natCast]

theorem sub_ofNat_eq_ofInt (v : Byte) (n : Nat) : v - BitVec.ofNat 8 n = BitVec.ofInt 8 ((v.toNat : Int) - n) := by
  rw [Int.sub_eq_add_neg, BitVec.ofInt_add, BitVec.ofInt_neg, ofInt_toNat, BitVec.ofInt_natCast, BitVec.sub_eq_add_neg]

theorem ofInt_beq_zero (r : Int) : (BitVec.ofInt 8 r == 0) = (r % 256 == 0) := by
  rw [Bool.eq_iff_iff, beq_iff_eq, beq_iff_eq, ← BitVec.toNat_inj, BitVec.toNat_ofInt]
  change (r % 256).toNat = 0 ↔ r % 256 = 0
  omega

theorem ofNat_beq_zero (n : Nat) : (BitVec.ofNat 8 n == 0) = (n % 256 == 0) := by
  rw [Bool.eq_iff_iff, beq_iff_eq, beq_iff_eq, ← BitVec.toNat_inj, BitVec.toNat_ofNat]
  rfl

/-! ## Results and flags in those numbers -/

/-- `Add8` (R170). -/
theorem add8_eq (a b : Byte) (cin : Bool) : add8 a b cin =
    ⟨BitVec.ofNat 8 (a.toNat + b.toNat + cin.toNat), (a.toNat + b.toNat + cin.toNat) % 256 == 0, false,
      decide (a.toNat % 16 + b.toNat % 16 + cin.toNat > 0xF), decide (a.toNat + b.toNat + cin.toNat > 0xFF)⟩ := by
  rw [add8, ofNat_beq_zero]

/-- `Sub8` (R171), `m` the borrow-in: the two subtractions modulo 256 are one of the widened operand. -/
theorem sub8_eq (a b : Byte) {cin : Bool} {m : Nat} (hm : cin.toNat = m) : sub8 a b cin =
    ⟨BitVec.ofInt 8 ((a.toNat : Int) - b.toNat - m), ((a.toNat : Int) - b.toNat - m) % 256 == 0, true,
      decide (a.toNat % 16 < b.toNat % 16 + m), decide (a.toNat < b.toNat + m)⟩ := by
  subst hm
  have hr : a - b - BitVec.ofNat 8 cin.toNat = BitVec.ofInt 8 ((a.toNat : Int) - b.toNat - cin.toNat) := by
    rw [Int.sub_sub, ← Int.natCast_add, ← sub_ofNat_eq_ofInt, BitVec.ofNat_add, BitVec.ofNat_toNat, BitVec.setWidth_eq,
      BitVec.sub_sub]
  rw [sub8, hr, ofInt_beq_zero]

/-- INC (R196). -/
theorem inc8_eq (v : Byte) (c : Bool) :
    inc8 v c = ⟨BitVec.ofNat 8 (v.toNat + 1), v == 0xFF, false, v.toNat % 16 == 0xF, c⟩ := by
  rw [BitVec.ofNat_add, BitVec.ofNat_toNat, BitVec.setWidth_eq]
  rfl

/-- DEC (R198). -/
theorem dec8_eq (v : Byte) (c : Bool) :
    dec8 v c = ⟨BitVec.ofInt 8 ((v.toNat : Int) - 1), v == 0x01, true, v.toNat % 16 == 0x0, c⟩ := by
  rw [dec8, ← Int.natCast_one, ← sub_ofNat_eq_ofInt]
  rfl

/-- The correction of DAA as a number: 6 for the low digit, 0x60 for the high one (R200). -/
def decimalCorrection (low high : Bool) : Nat :=
  (if low then 0x06 else 0) + (if high then 0x60 else 0)

/-- DAA, its two tests named `low` and `high` and its correction `k` (R200). -/
theorem daa8_eq {a : Byte} {n h c low high : Bool} {k : Nat} (hlow : (h || (!n && decide (a.toNat % 16 > 9))) = low)
    (hhigh : (c || (!n && decide (a.toNat > 0x99))) = high) (hk : decimalCorrection low high = k) : daa8 a n h c =
      ⟨BitVec.ofInt 8 (if n then (a.toNat : Int) - k else (a.toNat : Int) + k),
        (if n then (a.toNat : Int) - k else (a.toNat : Int) + k) % 256 == 0, n, false, high⟩ := by
  have hcorr : daaCorrection a n h c = BitVec.ofNat 8 k := by
    rw [daaCorrection, hlow, hhigh, ← hk]
    cases low <;> cases high <;> rfl
  rw [daa8, hcorr, hhigh, add_ofNat_eq_ofInt, sub_ofNat_eq_ofInt, ← apply_ite (BitVec.ofInt 8), ofInt_beq_zero]

/-! ## What the shared operations answer, in the statements' words -/

/-- An accumulator operation with the result and flags `o` (R172 to R195). -/
theorem aluA_eq {op : AluOp} {x : Src8} {s : State} {o : AluOut} (ho : aluEval op s.a (source s x).1 s.cf = o) (i : Instr) :
    aluA i op x s = .next (done { (source s x).2 with a := o.result, zf := o.z, nf := o.n, hf := o.h, cf := o.c }
      (s.pc + sourceLength x) (s.params.cost i)) := by
  subst ho
  cases x <;> rfl

/-- An operand read and then written leaves c as it was (R196, R198). -/
theorem putOperand_operand_cf (s : State) (x : Opnd) (v : Byte) : (putOperand (operand s x).2 x v).cf = s.cf := by
  cases x with
  | reg r => exact State.setReg_cf s r v
  | mhl => exact (State.write_cf _ _ v).trans (State.read_cf s s.hl)

theorem readOpnd_eq_operand (s : State) (x : Opnd) : s.readOpnd x = operand s x := by cases x <;> rfl

theorem writeOpnd_eq_putOperand (s : State) (x : Opnd) (v : Byte) : s.writeOpnd x v = putOperand s x v := by cases x <;> rfl

/-- The end of INC and DEC: an operation that keeps c writes back its result and three flags (R196, R198). -/
theorem rewriteOpnd_eq {s : State} {o : AluOut} (hc : o.c = s.cf) (x : Opnd) (pc : Word) (k : Nat) :
    (((s.readOpnd x).2.writeOpnd x o.result).putFlags o).finish pc k =
      done { putOperand (operand s x).2 x o.result with zf := o.z, nf := o.n, hf := o.h } pc k := by
  have hcf : o.c = (putOperand (operand s x).2 x o.result).cf := hc.trans (putOperand_operand_cf s x _).symm
  rw [readOpnd_eq_operand, writeOpnd_eq_putOperand, State.putFlags, hcf]
  rfl

/-- INC with the result and flags `o` (R196, R197). -/
theorem incOpnd_eq {x : Opnd} {s : State} {o : AluOut} (ho : inc8 (operand s x).1 s.cf = o) (i : Instr) :
    incOpnd i x s = .next (done { putOperand (operand s x).2 x o.result with zf := o.z, nf := o.n, hf := o.h }
      (s.pc + 1) (s.params.cost i)) := by
  subst ho
  rw [incOpnd, readOpnd_eq_operand, ← rewriteOpnd_eq rfl, readOpnd_eq_operand]

/-- DEC with the result and flags `o` (R198, R199). -/
theorem decOpnd_eq {x : Opnd} {s : State} {o : AluOut} (ho : dec8 (operand s x).1 s.cf = o) (i : Instr) :
    decOpnd i x s = .next (done { putOperand (operand s x).2 x o.result with zf := o.z, nf := o.n, hf := o.h }
      (s.pc + 1) (s.params.cost i)) := by
  subst ho
  rw [decOpnd, readOpnd_eq_operand, ← rewriteOpnd_eq rfl, readOpnd_eq_operand]

/-- DAA with the result and flags `o` (R200). -/
theorem daaA_eq {s : State} {o : AluOut} (ho : daa8 s.a s.nf s.hf s.cf = o) (i : Instr) : daaA i s =
    .next (done { s with a := o.result, zf := o.z, nf := o.n, hf := o.h, cf := o.c } (s.pc + 1) (s.params.cost i)) := by
  subst ho
  rfl

/-! ## The statements form by form -/

/-- Settles O13: `Add8` of A and the operand, with the carry-in of the operation. -/
theorem addAndAddWithCarry : Obligations.AddAndAddWithCarry := by
  unfold Obligations.AddAndAddWithCarry
  intro adc x s
  cases adc with
  | false => exact ⟨(exec_alu .add x s).trans (aluA_eq (op := .add) (add8_eq _ _ false) _), row_alu s.params .add x⟩
  | true => exact ⟨(exec_alu .adc x s).trans (aluA_eq (op := .adc) (add8_eq _ _ s.cf) _), row_alu s.params .adc x⟩

/-- Settles O14: `Sub8` of A and the operand, with the borrow-in of the operation; CP keeps A. -/
theorem subtractAndCompare : Obligations.SubtractAndCompare := by
  unfold Obligations.SubtractAndCompare
  intro op x s hop
  rcases hop with rfl | rfl | rfl
  · exact ⟨(exec_alu .sub x s).trans (aluA_eq (op := .sub) (sub8_eq _ _ rfl) _), row_alu s.params .sub x⟩
  · have hcin : s.cf.toNat = if AluOp.sbc = .sbc ∧ s.cf = true then 1 else 0 := by cases s.cf <;> rfl
    exact ⟨(exec_alu .sbc x s).trans (aluA_eq (op := .sbc) (sub8_eq _ _ hcin) _), row_alu s.params .sbc x⟩
  · have hcp := congrArg (fun o : AluOut => { o with result := s.a }) (sub8_eq s.a (source s x).1 (cin := false) rfl)
    exact ⟨(exec_alu .cp x s).trans (aluA_eq (op := .cp) hcp _), row_alu s.params .cp x⟩

/-- Settles O15: the three bitwise operations. -/
theorem logicalOperations : Obligations.LogicalOperations := by
  unfold Obligations.LogicalOperations
  intro op x s hop
  rcases hop with rfl | rfl | rfl
  · exact ⟨(exec_alu .and x s).trans (aluA_eq rfl _), row_alu s.params .and x⟩
  · exact ⟨(exec_alu .xor x s).trans (aluA_eq rfl _), row_alu s.params .xor x⟩
  · exact ⟨(exec_alu .or x s).trans (aluA_eq rfl _), row_alu s.params .or x⟩

/-- Settles O16: `incOpnd` and `decOpnd` on a register and on the cell at HL. -/
theorem incrementDecrementByte : Obligations.IncrementDecrementByte := by
  unfold Obligations.IncrementDecrementByte
  intro x s
  cases x with
  | reg r => exact ⟨⟨(exec_incR r s).trans (incOpnd_eq (inc8_eq _ _) _), row_incR s.params r⟩,
      ⟨(exec_decR r s).trans (decOpnd_eq (dec8_eq _ _) _), row_decR s.params r⟩⟩
  | mhl => exact ⟨⟨(exec_incMhl s).trans (incOpnd_eq (inc8_eq _ _) _), costs_and_byte0_of_opcode rfl (by decide) rfl _⟩,
      ⟨(exec_decMhl s).trans (decOpnd_eq (dec8_eq _ _) _), costs_and_byte0_of_opcode rfl (by decide) rfl _⟩⟩

/-- Settles O17: the statement's correction is the one of the model's two tests. -/
theorem decimalAdjust : Obligations.DecimalAdjust := by
  unfold Obligations.DecimalAdjust
  intro s low above corr r
  have hcorr : decimalCorrection (s.hf || (!s.nf && decide (s.a.toNat % 16 > 9))) above = corr := by
    simp [corr, low, decimalCorrection]
  exact ⟨(exec_daa s).trans (daaA_eq (daa8_eq rfl rfl hcorr) _), costs_and_byte0_of_opcode rfl (by decide) rfl _⟩

/-- Settles O18: CPL, SCF and CCF. -/
theorem complementAndCarryFlag : Obligations.ComplementAndCarryFlag := by
  unfold Obligations.ComplementAndCarryFlag
  intro s
  refine ⟨⟨exec_cpl s, ?_⟩, ⟨exec_scf s, ?_⟩, ⟨exec_ccf s, ?_⟩⟩
  all_goals exact costs_and_byte0_of_opcode rfl (by decide) rfl _

/-! ## Packed BCD through DAA -/

theorem bcd_toNat {n : Nat} (h : n < 100) : (bcd n).toNat = 16 * (n / 10) + n % 10 := by
  rw [bcd, BitVec.toNat_ofNat]
  omega

/-- What DAA makes of the result and flags of the operation before it (R200). -/
def adjusted (o : AluOut) : AluOut := daa8 o.result o.n o.h o.c

/-- After an addition the tests are on the carries and on the sum (R200). -/
theorem adjusted_add {m : Nat} {z h c low high : Bool} (hlow : (h || decide (m % 256 % 16 > 9)) = low)
    (hhigh : (c || decide (m % 256 > 0x99)) = high) : adjusted ⟨BitVec.ofNat 8 m, z, false, h, c⟩ =
      ⟨BitVec.ofInt 8 ((m % 256 : Nat) + decimalCorrection low high),
        (((m % 256 : Nat) : Int) + decimalCorrection low high) % 256 == 0, false, false, high⟩ :=
  daa8_eq hlow hhigh rfl

/-- After a subtraction the tests are on the borrows alone (R200). -/
theorem adjusted_sub (a : Byte) (z h c : Bool) : adjusted ⟨a, z, true, h, c⟩ =
    ⟨BitVec.ofInt 8 ((a.toNat : Int) - decimalCorrection h c), ((a.toNat : Int) - decimalCorrection h c) % 256 == 0, true,
      false, c⟩ :=
  daa8_eq (Bool.or_false h) (Bool.or_false c) rfl

/-- The low digit is adjusted when the units reach 10, the high one when the sum reaches 100; the byte is then the sum's
(R170, R200). -/
theorem adjusted_add8_bcd {x y : Nat} (hx : x < 100) (hy : y < 100) :
    (adjusted (add8 (bcd x) (bcd y) false)).result = bcd ((x + y) % 100)
    ∧ (adjusted (add8 (bcd x) (bcd y) false)).c = decide (100 ≤ x + y) := by
  obtain ⟨tens, htens⟩ : ∃ tens, x / 10 + y / 10 = tens := ⟨_, rfl⟩
  obtain ⟨units, hunits⟩ : ∃ units, x % 10 + y % 10 = units := ⟨_, rfl⟩
  have hsum : x + y = 10 * tens + units := by omega
  have hbyte : (bcd x).toNat + (bcd y).toNat + false.toNat = 16 * tens + units := by
    rw [bcd_toNat hx, bcd_toNat hy, Bool.toNat_false]
    omega
  have hnibble : (bcd x).toNat % 16 + (bcd y).toNat % 16 + false.toNat = units := by
    rw [bcd_toNat hx, bcd_toNat hy, Bool.toNat_false]
    omega
  have hlow : (decide (units > 0xF) || decide ((16 * tens + units) % 256 % 16 > 9)) = decide (10 ≤ units) := by
    rw [← Bool.decide_or, decide_eq_decide]
    omega
  have hhigh : (decide (16 * tens + units > 0xFF) || decide ((16 * tens + units) % 256 > 0x99))
      = decide (100 ≤ 10 * tens + units) := by
    rw [← Bool.decide_or, decide_eq_decide]
    omega
  rw [add8_eq, hbyte, hnibble, adjusted_add hlow hhigh, hsum]
  refine ⟨BitVec.eq_of_toNat_eq ?_, rfl⟩
  rw [bcd_toNat (Nat.mod_lt _ (by decide)), BitVec.toNat_ofInt]
  simp only [decimalCorrection, decide_eq_true_eq]
  split_ifs <;> omega

/-- The low digit is adjusted when the units borrow, the high one when the difference is negative; the byte is then the
difference's (R171, R200). -/
theorem adjusted_sub8_bcd {x y : Nat} (hx : x < 100) (hy : y < 100) :
    (adjusted (sub8 (bcd x) (bcd y) false)).result = bcd ((x + 100 - y) % 100)
    ∧ (adjusted (sub8 (bcd x) (bcd y) false)).c = decide (x < y) := by
  have hlow : decide ((bcd x).toNat % 16 < (bcd y).toNat % 16 + false.toNat) = decide (x % 10 < y % 10) := by
    rw [decide_eq_decide, bcd_toNat hx, bcd_toNat hy, Bool.toNat_false]
    omega
  have hhigh : decide ((bcd x).toNat < (bcd y).toNat + false.toNat) = decide (x < y) := by
    rw [decide_eq_decide, bcd_toNat hx, bcd_toNat hy, Bool.toNat_false]
    omega
  rw [sub8_eq _ _ rfl, hlow, hhigh, adjusted_sub, bcd_toNat hx, bcd_toNat hy, Bool.toNat_false]
  refine ⟨BitVec.eq_of_toNat_eq ?_, rfl⟩
  rw [bcd_toNat (Nat.mod_lt _ (by decide)), BitVec.toNat_ofInt, BitVec.toNat_ofInt]
  simp only [decimalCorrection, decide_eq_true_eq]
  split_ifs <;> omega

/-- An accumulator operation on A and B followed by DAA leaves in A and c the adjusted result and carry (R200). -/
theorem exec_alu_daa (op : AluOp) (s : State) {o : AluOut} (ho : adjusted (aluEval op s.a s.b s.cf) = o) :
    ∃ t u, exec (Instr.alu op (.reg .b)) s = .next t ∧ exec .daa t = .next u ∧ u.a = o.result ∧ u.cf = o.c := by
  subst ho
  exact ⟨_, _, (exec_alu op _ s).trans (aluA_eq rfl _), (exec_daa _).trans (daaA_eq rfl _), rfl, rfl⟩

/-- Settles O59: ADD or SUB of the two bytes, adjusted. -/
theorem decimalArithmetic : Obligations.DecimalArithmetic := by
  unfold Obligations.DecimalArithmetic
  intro s x y hx hy ha hb
  obtain ⟨hsum, hcarry⟩ := adjusted_add8_bcd hx hy
  obtain ⟨hdiff, hborrow⟩ := adjusted_sub8_bcd hx hy
  rw [← ha, ← hb] at hsum hcarry hdiff hborrow
  constructor
  · obtain ⟨t, u, ht, hu, hres, hcf⟩ := exec_alu_daa .add s rfl
    exact ⟨t, u, ht, hu, hres.trans hsum, by rw [hcf.trans hcarry, decide_eq_true_eq]⟩
  · obtain ⟨t, u, ht, hu, hres, hcf⟩ := exec_alu_daa .sub s rfl
    exact ⟨t, u, ht, hu, hres.trans hdiff, by rw [hcf.trans hborrow, decide_eq_true_eq]⟩

end Sys2Proof
end

section
/-! PROOFS. 16-bit arithmetic on the register pairs (spec/43_alu16.md R210 to R212): ADD HL, INC and DEC. -/

namespace Sys2Proof

open Sys2Proof.Machine Sys2Proof.Claims

/-! ## The rows of the opcode table -/

theorem row_addHl (p : Config.Params) (r : Reg16) :
    Costs p (Instr.addHl r) 8 ∧ Byte0 (0x09 + 16 * sel16 r) (Instr.addHl r) := by
  cases r <;> exact costs_and_byte0_of_opcode rfl (by decide) rfl p

theorem row_inc16 (p : Config.Params) (r : Reg16) :
    Costs p (Instr.inc16 r) 8 ∧ Byte0 (0x03 + 16 * sel16 r) (Instr.inc16 r) := by
  cases r <;> exact costs_and_byte0_of_opcode rfl (by decide) rfl p

theorem row_dec16 (p : Config.Params) (r : Reg16) :
    Costs p (Instr.dec16 r) 8 ∧ Byte0 (0x0B + 16 * sel16 r) (Instr.dec16 r) := by
  cases r <;> exact costs_and_byte0_of_opcode rfl (by decide) rfl p

/-! ## The two bytes of a sum -/

/-- The high byte of a sum modulo 2^16, bit 16 of the sum dropped (R210). -/
theorem high_add_eq_ofNat (a b : Word) : high (a + b) = BitVec.ofNat 8 ((a.toNat + b.toNat) / 256) := by
  refine (extract_high_eq (a + b)).trans (BitVec.eq_of_toNat_eq ?_)
  rw [BitVec.toNat_ofNat, BitVec.toNat_ofNat, BitVec.toNat_add]
  omega

/-- The low byte of a sum modulo 2^16 (R210). -/
theorem low_add_eq_ofNat (a b : Word) : low (a + b) = BitVec.ofNat 8 (a.toNat + b.toNat) := by
  apply BitVec.eq_of_toNat_eq
  rw [BitVec.extractLsb'_toNat, Nat.shiftRight_zero, BitVec.toNat_ofNat, BitVec.toNat_add]
  omega

/-! ## What the shared operations answer, in the statements' words -/

/-- HL set to its sum with the pair, byte by byte; z is the state's own (R210). -/
theorem addToHl_eq (i : Instr) (r : Reg16) (s : State) : addToHl i r s =
    .next (done { s with
      h := BitVec.ofNat 8 ((s.hl.toNat + (s.getReg16 r).toNat) / 256)
      l := BitVec.ofNat 8 (s.hl.toNat + (s.getReg16 r).toNat)
      nf := false
      hf := decide (s.hl.toNat % 0x1000 + (s.getReg16 r).toNat % 0x1000 > 0x0FFF)
      cf := decide (s.hl.toNat + (s.getReg16 r).toNat > 0xFFFF) } (s.pc + 1) (s.params.cost i)) := by
  rw [← high_add_eq_ofNat, ← low_add_eq_ofNat]
  rfl

/-- The pair stepped to `v` (R211, R212). -/
theorem stepReg16_eq {r : Reg16} {s : State} {delta v : Word} (hv : s.getReg16 r + delta = v) (i : Instr) :
    stepReg16 i r delta s = .next (done (s.setReg16 r v) (s.pc + 1) (s.params.cost i)) := by
  subst hv
  rfl

/-! ## The statements -/

/-- Settles O19: `addToHl` of each pair, HL itself included. -/
theorem addToHl : Obligations.AddToHl := by
  unfold Obligations.AddToHl
  intro r s
  exact ⟨(exec_addHl r s).trans (addToHl_eq _ r s), row_addHl s.params r⟩

/-- Settles O20: `stepReg16` by 1 and by -1, modulo 2^16 by the two facts about words. -/
theorem stepSixteenBit : Obligations.StepSixteenBit := by
  unfold Obligations.StepSixteenBit
  intro r s
  exact ⟨⟨(exec_inc16 r s).trans (stepReg16_eq (add_one_eq_ofNat _) _), row_inc16 s.params r⟩,
    ⟨(exec_dec16 r s).trans (stepReg16_eq (sub_one_eq_ofInt _) _), row_dec16 s.params r⟩⟩

end Sys2Proof
end

section
/-! PROOFS. Rotates, shifts and bits (spec/44_rotate_shift_bit.md R220 to R246): the row of a prefixed instruction in the opcode
table, results and carries as whole-byte operations, what the shared operations answer, and the statements. -/

namespace Sys2Proof

open Sys2Proof.Machine Sys2Proof.Claims

/-! ## The row of a prefixed instruction: its byte and its default cost (R105, R224, R380) -/

theorem selOpnd_lt (x : Opnd) : selOpnd x < 8 := by
  cases x with
  | reg r => cases r <;> decide
  | mhl => decide

theorem ofSel_selOpnd (x : Opnd) : Opnd.ofSel (selOpnd x) = x := by
  cases x with
  | reg r => cases r <;> rfl
  | mhl => rfl

theorem selRot_lt (op : RotOp) : selRot op < 8 := by cases op <;> decide

theorem ofSel_selRot (op : RotOp) : RotOp.ofSel (selRot op) = op := by cases op <;> rfl

/-- The memory operand is the one with selector 6 (R95, R224). -/
theorem operandCost_eq (x : Opnd) : operandCost x = if selOpnd x = 6 then 16 else 8 := by
  cases x with
  | reg r => cases r <;> rfl
  | mhl => rfl

/-- A prefixed instruction on `x`, `op` its sub-opcode without the operand's selector, is that byte behind the prefix, and by
default the selector decides its cost. -/
theorem costs_and_byteCb_of_opcode {i : Instr} {op : Nat} {x : Opnd} (hop : i.opcode = 0xCB00 + op + selOpnd x)
    (hfield : op % 8 = 0) (p : Config.Params) : Costs p i (operandCost x) ∧ ByteCb (op + selOpnd x) i := by
  have hsel := selOpnd_lt x
  have hprefixed : Nat.ble 0x100 i.opcode = true := Nat.ble_eq_true_of_le (by omega)
  have hbyte : BitVec.ofNat 8 i.opcode = BitVec.ofNat 8 (op + selOpnd x) := by
    apply BitVec.eq_of_toNat_eq
    rw [BitVec.toNat_ofNat, BitVec.toNat_ofNat]
    omega
  have hselector : i.opcode % 8 = selOpnd x := by omega
  have hdefault : i.defaultCycles = operandCost x := by
    rw [Instr.defaultCycles, if_neg (by omega), hselector, operandCost_eq]
  refine ⟨fun hp => (cost_of_default hp i).trans hdefault, ?_⟩
  have hdec := decode_opcode i
  rwa [hprefixed, hbyte] at hdec

theorem row_rot (p : Config.Params) (op : RotOp) (x : Opnd) :
    Costs p (Instr.rot op x) (operandCost x) ∧ ByteCb (8 * selRot op + selOpnd x) (Instr.rot op x) := by
  have hop := opcode_rot _ (selRot_lt op) _ (selOpnd_lt x)
  rw [ofSel_selRot, ofSel_selOpnd] at hop
  exact costs_and_byteCb_of_opcode hop (by omega) p

/-- The row of a family with a bit selector, `op` its first sub-opcode (R105). -/
theorem row_of_bit_family {family : Fin 8 → Opnd → Instr} {op : Nat} (hfield : op % 8 = 0)
    (hop : ∀ y < 8, ∀ z < 8, (family (Fin.ofNat 8 y) (Opnd.ofSel z)).opcode = 0xCB00 + op + 8 * y + z)
    (p : Config.Params) (b : Fin 8) (x : Opnd) :
    Costs p (family b x) (operandCost x) ∧ ByteCb (op + 8 * b.val + selOpnd x) (family b x) := by
  have hcode := hop _ b.isLt _ (selOpnd_lt x)
  rw [Fin.ofNat_val_eq_self, ofSel_selOpnd, Nat.add_assoc 0xCB00] at hcode
  exact costs_and_byteCb_of_opcode hcode (by omega) p

theorem row_bit (p : Config.Params) (b : Fin 8) (x : Opnd) :
    Costs p (Instr.bit b x) (operandCost x) ∧ ByteCb (0x40 + 8 * b.val + selOpnd x) (Instr.bit b x) :=
  row_of_bit_family rfl opcode_bit p b x

theorem row_res (p : Config.Params) (b : Fin 8) (x : Opnd) :
    Costs p (Instr.res b x) (operandCost x) ∧ ByteCb (0x80 + 8 * b.val + selOpnd x) (Instr.res b x) :=
  row_of_bit_family rfl opcode_res p b x

theorem row_set (p : Config.Params) (b : Fin 8) (x : Opnd) :
    Costs p (Instr.set b x) (operandCost x) ∧ ByteCb (0xC0 + 8 * b.val + selOpnd x) (Instr.set b x) :=
  row_of_bit_family rfl opcode_set p b x

/-! ## A word put together from its own parts, as shifts of the whole word -/

theorem append_eq_or {m n : Nat} (x : BitVec m) (y : BitVec n) :
    x ++ y = (x.setWidth (m + n) <<< n) ||| y.setWidth (m + n) := by
  rw [BitVec.append_def, BitVec.shiftLeftZeroExtend_eq, BitVec.setWidth'_eq]

/-- The bits above the low `m` are shifted out. -/
theorem setWidth_extractLsb'_zero_shiftLeft {m n : Nat} (v : BitVec (m + n)) :
    (v.extractLsb' 0 m).setWidth (m + n) <<< n = v <<< n := by
  apply BitVec.eq_of_getLsbD_eq
  intro i hi
  have hwide : i - n < m + n := by omega
  have hkept : i < n ∨ i - n < m := by omega
  rcases hkept with h | h <;> simp [h, hwide]

/-- The bits below bit `m` are shifted out. -/
theorem setWidth_extractLsb'_eq_ushiftRight {m n : Nat} (v : BitVec (m + n)) :
    (v.extractLsb' m n).setWidth (m + n) = v >>> m := by
  apply BitVec.eq_of_toNat_eq
  rw [BitVec.toNat_setWidth, BitVec.extractLsb'_toNat, BitVec.toNat_ushiftRight, Nat.shiftRight_eq_div_pow]
  have hquot : v.toNat / 2 ^ m < 2 ^ n := Nat.div_lt_of_lt_mul (by rw [← Nat.pow_add]; exact v.isLt)
  have hwide : v.toNat / 2 ^ m < 2 ^ (m + n) := hquot.trans_le (Nat.pow_le_pow_right (by decide) (by omega))
  rw [Nat.mod_eq_of_lt hquot, Nat.mod_eq_of_lt hwide]

/-- The low `m` bits moved up, with `y` brought in below them. -/
theorem extractLsb'_append_eq_or {m n : Nat} (v : BitVec (m + n)) (y : BitVec n) :
    v.extractLsb' 0 m ++ y = (v <<< n) ||| y.setWidth (m + n) := by
  rw [append_eq_or, setWidth_extractLsb'_zero_shiftLeft]

/-- The bits from bit `m` moved down, with `x` brought in above them. -/
theorem append_extractLsb'_eq_or {m n : Nat} (x : BitVec m) (v : BitVec (m + n)) :
    x ++ v.extractLsb' m n = (v >>> m) ||| (x.setWidth (m + n) <<< n) := by
  rw [append_eq_or, setWidth_extractLsb'_eq_ushiftRight, BitVec.or_comm]

/-- The two parts of a word exchanged. -/
theorem extractLsb'_append_extractLsb'_eq_or {m n : Nat} (v : BitVec (m + n)) :
    v.extractLsb' 0 m ++ v.extractLsb' m n = (v <<< n) ||| (v >>> m) := by
  rw [extractLsb'_append_eq_or, setWidth_extractLsb'_eq_ushiftRight]

/-- The top bit kept above the others moved down by one. -/
theorem extractLsb'_append_eq_sshiftRight {n : Nat} (v : BitVec (1 + n)) :
    v.extractLsb' n 1 ++ v.extractLsb' 1 n = v.sshiftRight 1 := by
  apply BitVec.eq_of_getLsbD_eq
  intro i hi
  rw [BitVec.getLsbD_append, BitVec.getLsbD_sshiftRight]
  by_cases hlow : i < n
  · simp [hlow, hi]
  · obtain rfl : i = n := by omega
    simp [BitVec.msb_eq_getLsbD_last]

/-! ## Results, carries and flags in the statements' words -/

theorem getLsbD_seven_eq (v : Byte) : v.getLsbD 7 = decide (v.toNat ≥ 128) := BitVec.msb_eq_decide v

theorem getLsbD_zero_eq (v : Byte) : v.getLsbD 0 = decide (v.toNat % 2 = 1) := Nat.testBit_zero v.toNat

/-- The eight results put together from parts of the byte, against the whole-byte operations (R220 to R240). -/
theorem rotBits_fst (op : RotOp) (v : Byte) (c : Bool) : (rotBits op v c).1 = rotated op v c := by
  cases op with
  | rlc => exact extractLsb'_append_extractLsb'_eq_or (m := 7) (n := 1) v
  | rrc => exact (extractLsb'_append_extractLsb'_eq_or (m := 1) (n := 7) v).trans (BitVec.or_comm _ _)
  | rl =>
    refine (extractLsb'_append_eq_or (m := 7) (n := 1) v _).trans ?_
    cases c <;> rfl
  | rr =>
    refine (append_extractLsb'_eq_or (m := 1) (n := 7) _ v).trans ?_
    cases c <;> rfl
  | sla => exact (extractLsb'_append_eq_or (m := 7) (n := 1) v _).trans BitVec.or_zero
  | sra => exact extractLsb'_append_eq_sshiftRight (n := 7) v
  | swap => exact extractLsb'_append_extractLsb'_eq_or (m := 4) (n := 4) v
  | srl => exact (append_extractLsb'_eq_or (m := 1) (n := 7) _ v).trans BitVec.or_zero

theorem rotBits_snd (op : RotOp) (v : Byte) (c : Bool) : (rotBits op v c).2 = shiftedOut op v := by
  cases op with
  | rlc | rl | sla => exact getLsbD_seven_eq v
  | rrc | rr | sra | srl => exact getLsbD_zero_eq v
  | swap => rfl

/-- A rotate, a shift or SWAP with its flags (R220 to R240). -/
theorem rotEval_eq (op : RotOp) (v : Byte) (c : Bool) :
    rotEval op v c = ⟨rotated op v c, rotated op v c == 0, false, false, shiftedOut op v⟩ := by
  rw [rotEval, rotBits_fst, rotBits_snd]

/-- BIT's z (R241). -/
theorem not_getLsbD_eq (v : Byte) (k : Nat) : (!v.getLsbD k) = (v.toNat / 2 ^ k % 2 == 0) := by
  rw [BitVec.getLsbD, Nat.testBit_eq_decide_div_mod_eq]
  rcases Nat.mod_two_eq_zero_or_one (v.toNat / 2 ^ k) with h | h <;> rw [h] <;> rfl

/-- The mask of RES (R243). -/
theorem not_one_shiftLeft_eq : ∀ b : Fin 8, ~~~(1#8 <<< b.val) = BitVec.ofNat 8 (255 - 2 ^ b.val) := by decide

/-- The mask of SET (R245). -/
theorem one_shiftLeft_eq : ∀ b : Fin 8, 1#8 <<< b.val = BitVec.ofNat 8 (2 ^ b.val) := by decide

/-! ## What the shared operations answer, in the statements' words -/

/-- A rotate of A with its carry `c` (R220 to R223). -/
theorem rotA_eq {op : RotOp} {s : State} {c : Bool} (hc : (rotBits op s.a s.cf).2 = c) (i : Instr) : rotA i op s =
    .next (done { s with a := rotated op s.a s.cf, zf := false, nf := false, hf := false, cf := c } (s.pc + 1)
      (s.params.cost i)) := by
  rw [rotA, rotEval, rotBits_fst, hc]
  rfl

/-- A prefixed rotate, shift or SWAP (R224 to R240). -/
theorem rotOpnd_eq (i : Instr) (op : RotOp) (x : Opnd) (s : State) : rotOpnd i op x s =
    .next (done { putOperand (operand s x).2 x (rotated op (operand s x).1 s.cf) with
      zf := rotated op (operand s x).1 s.cf == 0, nf := false, hf := false, cf := shiftedOut op (operand s x).1 }
      (s.pc + 2) (s.params.cost i)) := by
  rw [rotOpnd, rotEval_eq, readOpnd_eq_operand, writeOpnd_eq_putOperand]
  rfl

/-- BIT leaves c as reading the operand leaves it (R241, R242). -/
theorem bitOpnd_eq (i : Instr) (b : Fin 8) (x : Opnd) (s : State) : bitOpnd i b x s =
    .next (done { (operand s x).2 with zf := (operand s x).1.toNat / 2 ^ b.val % 2 == 0, nf := false, hf := true }
      (s.pc + 2) (s.params.cost i)) := by
  rw [bitOpnd, ← State.readOpnd_cf s x, readOpnd_eq_operand, not_getLsbD_eq]
  rfl

/-- RES (R243, R244). -/
theorem resOpnd_eq (i : Instr) (b : Fin 8) (x : Opnd) (s : State) : resOpnd i b x s =
    .next (done (putOperand (operand s x).2 x ((operand s x).1 &&& BitVec.ofNat 8 (255 - 2 ^ b.val))) (s.pc + 2)
      (s.params.cost i)) := by
  rw [resOpnd, readOpnd_eq_operand, writeOpnd_eq_putOperand, resBit, not_one_shiftLeft_eq]
  rfl

/-- SET (R245, R246). -/
theorem setOpnd_eq (i : Instr) (b : Fin 8) (x : Opnd) (s : State) : setOpnd i b x s =
    .next (done (putOperand (operand s x).2 x ((operand s x).1 ||| BitVec.ofNat 8 (2 ^ b.val))) (s.pc + 2)
      (s.params.cost i)) := by
  rw [setOpnd, readOpnd_eq_operand, writeOpnd_eq_putOperand, setBit, one_shiftLeft_eq]
  rfl

/-! ## The statements -/

/-- Settles O21: `rotA` of each of the four; the carry is the bit of A that the model shifts out. -/
theorem rotateAccumulator : Obligations.RotateAccumulator := by
  unfold Obligations.RotateAccumulator
  intro s
  exact ⟨⟨(exec_rlca s).trans (rotA_eq rfl _), costs_and_byte0_of_opcode rfl (by decide) rfl _⟩,
    ⟨(exec_rrca s).trans (rotA_eq rfl _), costs_and_byte0_of_opcode rfl (by decide) rfl _⟩,
    ⟨(exec_rla s).trans (rotA_eq rfl _), costs_and_byte0_of_opcode rfl (by decide) rfl _⟩,
    ⟨(exec_rra s).trans (rotA_eq rfl _), costs_and_byte0_of_opcode rfl (by decide) rfl _⟩⟩

/-- Settles O22: `rotOpnd` answers so for every operation of the family, the rotates among them. -/
theorem prefixedRotates : Obligations.PrefixedRotates := by
  unfold Obligations.PrefixedRotates
  intro op x s _
  exact ⟨(exec_rot op x s).trans (rotOpnd_eq _ op x s), row_rot s.params op x⟩

/-- Settles O23: `rotOpnd` answers so for every operation of the family, the shifts and SWAP among them. -/
theorem prefixedShiftsAndSwap : Obligations.PrefixedShiftsAndSwap := by
  unfold Obligations.PrefixedShiftsAndSwap
  intro op x s _
  exact ⟨(exec_rot op x s).trans (rotOpnd_eq _ op x s), row_rot s.params op x⟩

/-- Settles O24: `bitOpnd`, `resOpnd` and `setOpnd` of each bit and operand. -/
theorem bitTestResetSet : Obligations.BitTestResetSet := by
  unfold Obligations.BitTestResetSet
  intro b x s
  exact ⟨⟨(exec_bit b x s).trans (bitOpnd_eq _ b x s), row_bit s.params b x⟩,
    ⟨(exec_res b x s).trans (resOpnd_eq _ b x s), row_res s.params b x⟩,
    ⟨(exec_set b x s).trans (setOpnd_eq _ b x s), row_set s.params b x⟩⟩

end Sys2Proof
end

section
/-! PROOFS. The control transfers (spec/45_control_flow.md R250 to R260): the rows of the conditional families and of RST, the
two outcomes of a conditional transfer, what the shared operations answer, and the statements. -/

namespace Sys2Proof

open Sys2Proof.Machine Sys2Proof.Claims

/-! ## The rows of the opcode table -/

/-- The row of a conditional transfer has a second cost, of the transfer taken (R380). -/
theorem conditional_row_of_opcode {i : Instr} {op taken k : Nat} (hop : i.opcode = op) (hlt : op < 0x100)
    (hk : unprefixedCycles.getD op 0 = k) (htaken : i.defaultTaken = taken) (p : Config.Params) :
    CostsTaken p i taken ∧ Costs p i k ∧ Byte0 op i :=
  ⟨fun hp => (costTaken_of_default hp i).trans htaken, costs_and_byte0_of_opcode hop hlt hk p⟩

theorem row_jpCc (p : Config.Params) (cc : Cond) : CostsTaken p (Instr.jpCc cc) 16 ∧ Costs p (Instr.jpCc cc) 12
    ∧ Byte0 (0xC2 + 8 * selCond cc) (Instr.jpCc cc) := by
  cases cc <;> exact conditional_row_of_opcode rfl (by decide) rfl rfl p

theorem row_jrCc (p : Config.Params) (cc : Cond) : CostsTaken p (Instr.jrCc cc) 12 ∧ Costs p (Instr.jrCc cc) 8
    ∧ Byte0 (0x20 + 8 * selCond cc) (Instr.jrCc cc) := by
  cases cc <;> exact conditional_row_of_opcode rfl (by decide) rfl rfl p

theorem row_callCc (p : Config.Params) (cc : Cond) : CostsTaken p (Instr.callCc cc) 24 ∧ Costs p (Instr.callCc cc) 12
    ∧ Byte0 (0xC4 + 8 * selCond cc) (Instr.callCc cc) := by
  cases cc <;> exact conditional_row_of_opcode rfl (by decide) rfl rfl p

theorem row_retCc (p : Config.Params) (cc : Cond) : CostsTaken p (Instr.retCc cc) 20 ∧ Costs p (Instr.retCc cc) 8
    ∧ Byte0 (0xC0 + 8 * selCond cc) (Instr.retCc cc) := by
  cases cc <;> exact conditional_row_of_opcode rfl (by decide) rfl rfl p

theorem row_rst (p : Config.Params) (t : Fin 8) :
    Costs p (Instr.rst t) 16 ∧ Byte0 (0xC7 + 8 * t.val) (Instr.rst t) := by
  fin_cases t <;> exact costs_and_byte0_of_opcode rfl (by decide) rfl p

/-! ## What the shared operations answer, in the statements' words -/

/-- An outcome that the machine's test decides is the first one where the condition holds and the second one where it does not
(R97). -/
theorem outcome_of_cond {s : State} {cc : Cond} {o taken notTaken : Out} (ho : o = if s.cond cc then taken else notTaken) :
    (holds s cc → o = taken) ∧ (¬ holds s cc → o = notTaken) := by
  rw [← cond_iff_holds]
  exact ⟨fun hcc => ho.trans (if_pos hcc), fun hcc => ho.trans (if_neg hcc)⟩

/-- The target of a relative jump is the signed sum modulo 2^16 (R253). -/
theorem relative_target_eq_ofInt (w : Word) (e : Byte) :
    w + 2 + sext16 e = BitVec.ofInt 16 ((w.toNat : Int) + 2 + e.toInt) := by
  rw [BitVec.ofInt_add, BitVec.ofInt_add, BitVec.ofInt_natCast, BitVec.ofNat_toNat, BitVec.setWidth_eq]
  rfl

/-- JP a16 (R250). -/
theorem jumpAbs_eq (i : Instr) (s : State) :
    jumpAbs i s = .next (done (imm16 s).2 (imm16 s).1 (s.params.cost i)) := by
  rw [jumpAbs, imm16_eq_claims]
  rfl

/-- JP cc,a16 (R251). -/
theorem jumpAbsIf_eq (i : Instr) (cc : Cond) (s : State) : jumpAbsIf i cc s =
    if s.cond cc then .next (done (imm16 s).2 (imm16 s).1 (s.params.costTaken i))
    else .next (done (imm16 s).2 (s.pc + 3) (s.params.cost i)) := by
  rw [jumpAbsIf, imm16_eq_claims]
  rfl

/-- JR r8 to its target `target` (R253). -/
theorem jumpRel_eq {s : State} {target : Word} (ht : s.pc + 2 + sext16 (imm8 s).1 = target) (i : Instr) : jumpRel i s =
    .next (done (imm8 s).2 target (s.params.cost i)) := by
  subst ht
  rfl

/-- JR cc,r8 to its target `target` (R254). -/
theorem jumpRelIf_eq {s : State} {target : Word} (ht : s.pc + 2 + sext16 (imm8 s).1 = target) (i : Instr) (cc : Cond) :
    jumpRelIf i cc s =
      if s.cond cc then .next (done (imm8 s).2 target (s.params.costTaken i))
      else .next (done (imm8 s).2 (s.pc + 2) (s.params.cost i)) := by
  subst ht
  rfl

/-- CALL a16 (R255). -/
theorem callAbs_eq (i : Instr) (s : State) : callAbs i s =
    .next (done (pushed (imm16 s).2 (high (s.pc + 3)) (low (s.pc + 3))) (imm16 s).1 (s.params.cost i)) := by
  rw [callAbs, imm16_eq_claims, push16_eq_pushed]
  rfl

/-- CALL cc,a16 (R256). -/
theorem callAbsIf_eq (i : Instr) (cc : Cond) (s : State) : callAbsIf i cc s =
    if s.cond cc then
      .next (done (pushed (imm16 s).2 (high (s.pc + 3)) (low (s.pc + 3))) (imm16 s).1 (s.params.costTaken i))
    else .next (done (imm16 s).2 (s.pc + 3) (s.params.cost i)) := by
  rw [callAbsIf, imm16_eq_claims, push16_eq_pushed]
  rfl

/-- RST t (R260). -/
theorem restart_eq (i : Instr) (target : Word) (s : State) : restart i target s =
    .next (done (pushed s (high (s.pc + 1)) (low (s.pc + 1))) target (s.params.cost i)) := by
  rw [restart, push16_eq_pushed]
  rfl

/-- RET (R257). -/
theorem returnPop_eq (i : Instr) (s : State) : returnPop i s =
    .next (done (popped s).2 (popped s).1 (s.params.cost i)) := by
  rw [returnPop, pop16_eq_popped]
  rfl

/-- RET cc (R258). -/
theorem returnIf_eq (i : Instr) (cc : Cond) (s : State) : returnIf i cc s =
    if s.cond cc then .next (done (popped s).2 (popped s).1 (s.params.costTaken i))
    else .next (done s (s.pc + 1) (s.params.cost i)) := by
  rw [returnIf, pop16_eq_popped]
  rfl

/-- RETI sets IME at once (R259). -/
theorem returnInterrupt_eq (i : Instr) (s : State) : returnInterrupt i s =
    .next (done { (popped s).2 with ime := true } (popped s).1 (s.params.cost i)) := by
  rw [returnInterrupt, State.returnFromInterrupt, pop16_eq_popped]
  rfl

/-! ## The statements -/

/-- Settles O25: the model's relative target is the signed sum, and a conditional jump has the outcome its condition selects. -/
theorem jumps : Obligations.Jumps := by
  unfold Obligations.Jumps
  intro s target
  have ht : s.pc + 2 + sext16 (imm8 s).1 = target := relative_target_eq_ofInt s.pc (imm8 s).1
  refine ⟨⟨(exec_jpA16 s).trans (jumpAbs_eq _ s), costs_and_byte0_of_opcode rfl (by decide) rfl _⟩,
    ⟨exec_jpHl s, costs_and_byte0_of_opcode rfl (by decide) rfl _⟩,
    ⟨(exec_jrR8 s).trans (jumpRel_eq ht _), costs_and_byte0_of_opcode rfl (by decide) rfl _⟩, fun cc => ?_⟩
  obtain ⟨hjp, hnotJp⟩ := outcome_of_cond ((exec_jpCc cc s).trans (jumpAbsIf_eq _ cc s))
  obtain ⟨hjr, hnotJr⟩ := outcome_of_cond ((exec_jrCc cc s).trans (jumpRelIf_eq ht _ cc))
  obtain ⟨hjpTaken, hjpCost, hjpByte⟩ := row_jpCc s.params cc
  exact ⟨hjp, hnotJp, hjpTaken, hjpCost, hjpByte, hjr, hnotJr, row_jrCc s.params cc⟩

/-- Settles O26: a call pushes onto the state after its immediate, RST onto the state itself, and a conditional call has the
outcome its condition selects. -/
theorem callsAndRestarts : Obligations.CallsAndRestarts := by
  unfold Obligations.CallsAndRestarts
  intro s called
  refine ⟨⟨(exec_callA16 s).trans (callAbs_eq _ s), costs_and_byte0_of_opcode rfl (by decide) rfl _⟩, fun cc => ?_,
    fun t => ⟨(exec_rst t s).trans (restart_eq _ _ s), row_rst s.params t⟩⟩
  obtain ⟨hcall, hnotCall⟩ := outcome_of_cond ((exec_callCc cc s).trans (callAbsIf_eq _ cc s))
  exact ⟨hcall, hnotCall, row_callCc s.params cc⟩

/-- Settles O27: each form pops PC, and a conditional return has the outcome its condition selects. -/
theorem returns : Obligations.Returns := by
  unfold Obligations.Returns
  intro s
  refine ⟨⟨(exec_ret s).trans (returnPop_eq _ s), costs_and_byte0_of_opcode rfl (by decide) rfl _⟩,
    ⟨(exec_reti s).trans (returnInterrupt_eq _ s), costs_and_byte0_of_opcode rfl (by decide) rfl _⟩, fun cc => ?_⟩
  obtain ⟨hret, hnotRet⟩ := outcome_of_cond ((exec_retCc cc s).trans (returnIf_eq _ cc s))
  exact ⟨hret, hnotRet, row_retCc s.params cc⟩

end Sys2Proof
end

section
/-! PROOFS. CPU control (spec/46_cpu_control.md R270 to R276): what NOP, DI, EI, HALT and STOP answer, a step that reaches its
fetch as one fetch from the state at the boundary (spec/60_exceptions.md R310 to R314), and the statements. -/

namespace Sys2Proof

open Sys2Proof.Machine Sys2Proof.Claims

/-! ## What the shared operations answer, in the statements' words -/

/-- `AnyPending()` in the statements' words (R305). -/
theorem anyPending_iff (s : State) : s.anyPending = true ↔ s.ifBits &&& s.ie.setWidth 5 ≠ 0 := bne_iff_ne

/-- HALT (R271). -/
theorem haltEngine_eq (i : Instr) (s : State) : haltEngine i s =
    if s.ime = false ∧ s.ifBits &&& s.ie.setWidth 5 ≠ 0 then
      .next (done { s with haltBug := true } (s.pc + 1) (s.params.cost i))
    else .next (done { s with halted := true } (s.pc + 1) (s.params.cost i)) := by
  simp only [haltEngine, State.finish, Bool.and_eq_true, Bool.not_eq_true', anyPending_iff]

/-- STOP under `STOP_BEHAVIOUR = fatal` (R274, D24). -/
theorem stopEngine_of_fatal {s : State} (h : s.params.stopBehaviour = .fatal) (i : Instr) :
    stopEngine i s = .next { s with fatal := some .stopUnmodelled, cycles := 0 } := by
  rw [stopEngine, h]
  rfl

/-- STOP under `STOP_BEHAVIOUR = nop2` (R274, D24). -/
theorem stopEngine_of_nop2 {s : State} (h : s.params.stopBehaviour = .nop2) (i : Instr) :
    stopEngine i s = .next (done s (s.pc + 2) (s.params.cost i)) := by
  rw [stopEngine, h]
  rfl

/-! ## A step that reaches its fetch -/

/-- The boundary of the statements is the model's host turn and wake-up (R321, R311). -/
theorem wake_hostPhase (s : State) : s.hostPhase.wake = atBoundary s := by
  simp only [State.wake, atBoundary, anyPending_iff]

/-- With no bit set in both IF and IE, `GetPending()` answers none (R303). -/
theorem getPending_of_pendingBits_eq_zero {s : State} (h : s.pendingBits = 0) : s.getPending = none := by
  rw [State.getPending, h]
  rfl

/-- A step that reaches its fetch dispatches no interrupt (R312). -/
theorem dispatchSource_of_fetches {s : State} (h : Fetches s) : (atBoundary s).dispatchSource = none := by
  obtain ⟨-, hime | hbits, -⟩ := h
  · rw [State.dispatchSource, hime]
    rfl
  · rw [State.dispatchSource, getPending_of_pendingBits_eq_zero hbits, ite_self]

/-- `Step()` of a step that reaches its fetch is S4 to S8 from the boundary (R310). -/
theorem cpuStep_of_fetches {s : State} (h : Fetches s) : cpuStep s.hostPhase = fetchAndRun (atBoundary s) := by
  have hsource := dispatchSource_of_fetches h
  obtain ⟨-, -, hhalted⟩ := h
  simp [cpuStep, wake_hostPhase, hsource, hhalted]

/-- A system step that is not fatal is `Step()` after the host's turn, then its ticks (R320). -/
theorem step_of_cpuStep {s u : State} (hfatal : s.fatal = none) (hu : cpuStep s.hostPhase = .next u) :
    step s = .next (u.elapse u.cycles) := by
  simp [step, systemStep, hfatal, hu]

/-- In a fatal state no step is defined: the model answers the fault recorded (R330). -/
theorem step_of_fatal {s : State} {r : Fault} (h : s.fatal = some r) : step s = .fault r := by
  simp [step, systemStep, h]

/-- At an unassigned byte, which is no prefix, S4 reads that byte alone and finds no instruction (R106, R314). -/
theorem fetch_of_unassigned {s : State} (h : (s.read s.pc).1 ∈ unassigned) :
    s.fetch = ⟨(s.read s.pc).1, none, (s.read s.pc).2⟩ := by
  have hprefix : (s.read s.pc).1 ≠ 0xCB := fun heq => absurd (heq ▸ h) (by decide)
  have hdecode : decode (s.read s.pc).1 false = none := (decode_unprefixed_eq_none_iff _).mpr (.inr h)
  simp only [State.fetch, if_neg hprefix, hdecode]

/-- An unassigned byte at PC raises the fatal condition with that byte (R276). -/
theorem fetchAndRun_of_unassigned {s : State} (h : (s.read s.pc).1 ∈ unassigned) :
    fetchAndRun s = .next ((s.read s.pc).2.raiseFatal (.unassignedOpcode (s.read s.pc).1)) := by
  rw [fetchAndRun, fetch_of_unassigned h]

/-! ## IME and the latch through a step -/

/-- IME and the deferred enable are the same in both states. -/
def SameEnable (s t : State) : Prop := t.ime = s.ime ∧ t.eiPending = s.eiPending

/-- The fetch and the HALT bug's step back of PC do not reach IME or the deferred enable (R314, R315). -/
theorem sameEnable_fetch_haltBugBack (s : State) : SameEnable s s.fetch.state.haltBugBack := by
  rw [State.haltBugBack_state, State.fetch_state]
  exact ⟨rfl, rfl⟩

/-- Every instruction but DI and RETI leaves IME and the deferred enable (R17, R18). -/
theorem sameEnable_of_exec {i : Instr} {s t : State} (h : exec i s = .next t) (hdi : i ≠ .di) (hreti : i ≠ .reti) :
    SameEnable s t := by
  obtain ⟨hime, -, -, hpending, -⟩ := engineStateWriters i s t h
  refine ⟨by_contra fun hne => ?_, by_contra fun hne => hdi (hpending hne)⟩
  obtain ⟨rfl, -⟩ | ⟨rfl, -⟩ := hime hne
  · exact hdi rfl
  · exact hreti rfl

/-- When a step runs the fetched `i` and raises no fatal condition, IME and the latch afterwards are what S7 makes of the state
after `i`, and `i` ran with the IME and the deferred enable of the boundary (R314 to R317). -/
theorem enable_of_step {s t : State} {i : Instr} (hfetches : Fetches s) (hi : (atBoundary s).fetch.instr = some i)
    (hstep : step s = .next t) (hfatal : t.fatal = none) :
    ∃ g v : State, SameEnable (atBoundary s) g ∧ exec i g = .next v ∧ t.ime = (v.eiPending || v.ime)
      ∧ t.eiPending = decide (i = .ei) := by
  obtain ⟨-, u, hu, rfl⟩ := step_cases hstep
  rw [State.elapse_state] at hfatal ⊢
  have hrun : runInstr i (atBoundary s).fetch.state = .next u := by
    rw [cpuStep_of_fetches hfetches, fetchAndRun] at hu
    simpa only [hi] using hu
  obtain ⟨v, hv, ⟨hraised, rfl⟩ | ⟨-, rfl⟩⟩ := runInstr_cases hrun
  · exact absurd hfatal (Option.isSome_iff_ne_none.mp hraised)
  · rw [State.afterExec_state]
    exact ⟨_, v, sameEnable_fetch_haltBugBack _, hv, rfl, rfl⟩

/-! ## The statements -/

/-- Settles O28: the model's NOP and EI only end the instruction, and DI clears both latches before that. -/
theorem nopDiEi : Obligations.NopDiEi := by
  unfold Obligations.NopDiEi
  intro s
  exact ⟨⟨exec_nop s, costs_and_byte0_of_opcode rfl (by decide) rfl _⟩,
    ⟨exec_di s, costs_and_byte0_of_opcode rfl (by decide) rfl _⟩,
    ⟨exec_ei s, costs_and_byte0_of_opcode rfl (by decide) rfl _⟩⟩

/-- Settles O29: the two outcomes of HALT are the branches of its one test. -/
theorem haltOrHaltBug : Obligations.HaltOrHaltBug := by
  unfold Obligations.HaltOrHaltBug
  intro s
  have hexec := (exec_halt s).trans (haltEngine_eq _ s)
  exact ⟨fun hbug => hexec.trans (if_pos hbug), fun hno => hexec.trans (if_neg hno),
    costs_and_byte0_of_opcode rfl (by decide) rfl _⟩

/-- Settles O30: one outcome of STOP for each value of `STOP_BEHAVIOUR`. -/
theorem stopFatalOrSkip : Obligations.StopFatalOrSkip := by
  unfold Obligations.StopFatalOrSkip
  intro s
  exact ⟨fun h => (exec_stop s).trans (stopEngine_of_fatal h _), fun h => (exec_stop s).trans (stopEngine_of_nop2 h _),
    costs_and_byte0_of_opcode rfl (by decide) rfl _⟩

/-- Settles O48: S7 on the latches after the instruction, which DI and RETI set and every other instruction leaves as they were
at the boundary. -/
theorem enableTakesEffectOneInstructionLate : Obligations.EnableTakesEffectOneInstructionLate := by
  unfold Obligations.EnableTakesEffectOneInstructionLate
  intro s t i hfetches hi hstep hfatal b
  obtain ⟨g, v, ⟨hime, hpending⟩, hexec, htime, htpending⟩ := enable_of_step hfetches hi hstep hfatal
  rw [htime, htpending]
  refine ⟨decide_eq_true_iff, ?di, ?reti, fun hdi hreti => ?other⟩
  case di =>
    rintro rfl
    cases (exec_di g).symm.trans hexec
    rfl
  case reti =>
    rintro rfl
    cases ((exec_reti g).trans (returnInterrupt_eq _ g)).symm.trans hexec
    exact Bool.or_true _
  case other =>
    obtain ⟨hime', hpending'⟩ := sameEnable_of_exec hexec hdi hreti
    rw [hime', hpending', hime, hpending, Bool.or_eq_true, or_comm]

/-- Settles O49: the fetch finds no instruction, and a step that raised the fatal condition took no T-cycle. -/
theorem unassignedOpcodeIsFatal : Obligations.UnassignedOpcodeIsFatal := by
  unfold Obligations.UnassignedOpcodeIsFatal
  intro s
  refine ⟨fun hfetches hbyte => ?_, fun r => step_of_fatal⟩
  exact step_of_cpuStep hfetches.1 ((cpuStep_of_fetches hfetches).trans (fetchAndRun_of_unassigned hbyte))

end Sys2Proof
end

section
/-! PROOFS. The timer (spec/60_exceptions.md R340 to R349): the selected bit and its falling edge in arithmetic, one tick by the
rules, the writes of the timer registers, the reload after an overflow, and the period of TIMA. -/

namespace Sys2Proof

open Sys2Proof.Machine Sys2Proof.Claims

/-! ## The selected bit (R341) -/

theorem selectedIndex_eq : ∀ tac : BitVec 3, selectedIndex tac =
    if tac.toNat % 4 = 0 then 9 else if tac.toNat % 4 = 1 then 3 else if tac.toNat % 4 = 2 then 5 else 7 := by decide

/-- TAC bit 2 says whether the three bits are 4 or more. -/
theorem getLsbD_two (tac : BitVec 3) : tac.getLsbD 2 = decide (4 ≤ tac.toNat) :=
  BitVec.msb_eq_decide tac

/-- The selected bit in the statements' words. -/
theorem selectedBit_eq_watched (s : State) : s.selectedBit = watched s.tac s.counter := by
  rw [State.selectedBit, getLsbD_two, selectedIndex_eq, BitVec.getLsbD, Nat.testBit_eq_decide_div_mod_eq,
    ← Bool.decide_and]
  rfl

theorem watched_zero : ∀ tac : BitVec 3, watched tac 0 = false := by decide

/-- The selected bit of an enabled timer is 1 in the second half of each period (R341, R349). -/
theorem watched_iff {tac : BitVec 3} (henabled : 4 ≤ tac.toNat) (counter : BitVec 16) :
    watched tac counter = true ↔ period tac ≤ 2 * (counter.toNat % period tac) := by
  rw [watched, decide_eq_true_iff, period]
  split_ifs <;> omega

theorem period_cases (tac : BitVec 3) : period tac = 1024 ∨ period tac = 16 ∨ period tac = 64 ∨ period tac = 256 := by
  unfold period
  split_ifs <;> simp

/-- The selected bit falls at the tick that brings the counter to a multiple of the period (R349). -/
theorem falls_iff {tac : BitVec 3} (henabled : 4 ≤ tac.toNat) (counter : BitVec 16) :
    (watched tac counter && !watched tac (counter + 1)) = true ↔ (counter.toNat + 1) % period tac = 0 := by
  rw [Bool.and_eq_true, Bool.not_eq_true', ← Bool.not_eq_true, watched_iff henabled, watched_iff henabled,
    BitVec.toNat_add]
  have hone : (1 : BitVec 16).toNat = 1 := rfl
  obtain hp | hp | hp | hp := period_cases tac <;> rw [hp] <;> omega

/-! ## The steps of a tick, in the statements' words -/

theorem incrementTima_eq (s : State) : s.incrementTima = { s with
    tima := BitVec.ofNat 8 (s.tima.toNat + 1), reload := if s.tima = 0xFF then some 4 else s.reload } := by
  unfold State.incrementTima
  split
  · rename_i hmax
    rw [hmax]
    rfl
  · rw [BitVec.ofNat_add, BitVec.ofNat_toNat, BitVec.setWidth_eq]
    rfl

/-- TIMA stepped where the selected bit falls, and left alone where it does not (R342). -/
def stepTimaIf (s : State) (falls : Bool) : State :=
  if falls then { s with
    tima := BitVec.ofNat 8 (s.tima.toNat + 1), reload := if s.tima = 0xFF then some 4 else s.reload } else s

/-- The edge check (R342). -/
theorem edgeCheck_eq (s : State) : s.edgeCheck =
    { stepTimaIf s (s.prevBit && !watched s.tac s.counter) with prevBit := watched s.tac s.counter } := by
  rw [State.edgeCheck, selectedBit_eq_watched, incrementTima_eq]
  rfl

/-- The countdown of the reload (R340, part 2): at 1 it loads TMA and ends. -/
theorem reloadTick_eq {s : State} (h : reloadOk s.reload = true) : s.reloadTick =
    (decide (s.reload = some 1), { s with
      tima := if decide (s.reload = some 1) then s.tma else s.tima
      reload := if decide (s.reload = some 1) then none else s.reload.map (fun k => k - 1) }) := by
  unfold State.reloadTick
  split
  · rename_i hnone
    rw [Prod.mk.injEq, State.mk.injEq]
    simp [hnone]
  · rename_i k hk
    rw [hk] at h
    have hpos : 1 ≤ k := by simp_all [reloadOk]
    split
    · obtain rfl : k = 1 := by omega
      simp [hk]
    · rename_i hne
      have hk1 : k ≠ 1 := by omega
      simp [hk, hk1]

/-- One tick of the timer (R340): the counter, the countdown, then TIMA stepped where the selected bit falls. -/
theorem timerTick_eq {s : State} {counter : BitVec 16} {falls : Bool} (hok : reloadOk s.reload = true)
    (hcounter : s.counter + 1 = counter) (hfalls : (s.prevBit && !watched s.tac counter) = falls) : s.timerTick =
    (decide (s.reload = some 1), stepTimaIf { s with
      counter := counter, prevBit := watched s.tac counter
      tima := if decide (s.reload = some 1) then s.tma else s.tima
      reload := if decide (s.reload = some 1) then none else s.reload.map (fun k => k - 1) } falls) := by
  have hreload := reloadTick_eq (s := { s with counter := counter }) hok
  simp only [State.timerTick, hcounter, hreload, edgeCheck_eq, hfalls]
  cases falls <;> rfl

/-- Settles O52: the reload countdown, then the edge check at the new counter. -/
theorem timerTickByTheRules : Obligations.TimerTickByTheRules := by
  unfold Obligations.TimerTickByTheRules
  intro s h counter fired tima reload falls
  rw [timerTick_eq h (add_one_eq_ofNat s.counter) (falls := falls) rfl]
  cases falls with
  | false => rfl
  | true => simp [stepTimaIf, counter, fired, tima, reload]

/-! ## Writes of the timer registers -/

/-- Settles O41: DIV and TAC by the edge check that follows the write, TIMA and TMA by the write alone. -/
theorem writeToTimerRegisters : Obligations.WriteToTimerRegisters := by
  unfold Obligations.WriteToTimerRegisters
  intro s v stepped now
  have htac : v.setWidth 3 = BitVec.ofNat 3 v.toNat := (BitVec.ofNat_toNat 3 v).symm
  refine ⟨?div, rfl, rfl, ?tac⟩
  case div =>
    change State.edgeCheck { s with counter := 0 } = { stepTimaIf s s.prevBit with counter := 0, prevBit := false }
    rw [edgeCheck_eq, watched_zero, Bool.not_false, Bool.and_true]
    cases s.prevBit <;> rfl
  case tac =>
    change State.edgeCheck { s with tac := v.setWidth 3 } = { stepTimaIf s (s.prevBit && !now) with
      tac := BitVec.ofNat 3 v.toNat, prevBit := now }
    rw [edgeCheck_eq, htac]
    cases (s.prevBit && !now) <;> rfl

/-! ## The ticks after a step (R320, R348) -/

/-- One tick: the countdown with its request, then TIMA stepped where the selected bit falls. -/
theorem tick_eq {s : State} {counter : BitVec 16} {falls : Bool} (hok : reloadOk s.reload = true)
    (hcounter : s.counter + 1 = counter) (hfalls : (s.prevBit && !watched s.tac counter) = falls) : s.tick =
    stepTimaIf { s with
      counter := counter, prevBit := watched s.tac counter
      tima := if s.reload = some 1 then s.tma else s.tima
      reload := if s.reload = some 1 then none else s.reload.map (fun k => k - 1)
      ifBits := if s.reload = some 1 then s.ifBits ||| 0b00100 else s.ifBits } falls := by
  simp only [State.tick, timerTick_eq hok hcounter hfalls, decide_eq_true_iff]
  by_cases hfires : s.reload = some 1
  · simp only [if_pos hfires]
    cases falls <;> rfl
  · simp only [if_neg hfires]

theorem ticks_succ (n : Nat) (s : State) : State.ticks (n + 1) s = (State.ticks n s).tick :=
  State.ticks_add s n 1

/-- The counter `n` ticks after `s` (R340). -/
def counterAfter (s : State) (n : Nat) : BitVec 16 := BitVec.ofNat 16 (s.counter.toNat + n)

theorem counterAfter_add_one (s : State) (n : Nat) : counterAfter s n + 1 = counterAfter s (n + 1) :=
  (BitVec.ofNat_add (s.counter.toNat + n) 1).symm

theorem counterAfter_zero (s : State) : counterAfter s 0 = s.counter := by
  rw [counterAfter, Nat.add_zero, BitVec.ofNat_toNat, BitVec.setWidth_eq]

/-- The period divides the range of the counter, so a wrap of the counter does not disturb it. -/
theorem counterAfter_mod_period (s : State) (n : Nat) :
    (counterAfter s n).toNat % period s.tac = (s.counter.toNat + n) % period s.tac := by
  rw [counterAfter, BitVec.toNat_ofNat]
  obtain hp | hp | hp | hp := period_cases s.tac <;> rw [hp] <;> omega

/-- Whether the selected bit falls at the tick that follows the `n`th after `s` (R342). -/
def fallsAfter (s : State) (n : Nat) : Bool :=
  watched s.tac (counterAfter s n) && !watched s.tac (counterAfter s (n + 1))

theorem fallsAfter_iff {s : State} (henabled : 4 ≤ s.tac.toNat) (n : Nat) :
    fallsAfter s n = true ↔ (s.counter.toNat + n + 1) % period s.tac = 0 := by
  rw [fallsAfter, ← counterAfter_add_one, falls_iff henabled, Nat.add_mod, counterAfter_mod_period, ← Nat.add_mod]

/-! ## The reload after an overflow (R349) -/

/-- `k` ticks after the tick in which TIMA overflows, `s` being the state before that tick. -/
def overflowed (s : State) (k : Nat) : State := { s with
  counter := counterAfter s (k + 1), prevBit := watched s.tac (counterAfter s (k + 1)), tima := 0x00
  reload := some (4 - k) }

theorem tick_overflows {s : State} (hreload : s.reload = none) (htima : s.tima = 0xFF) (hprev : s.prevBit = true)
    (hlow : watched s.tac (counterAfter s 1) = false) : s.tick = overflowed s 0 := by
  have hfalls : (s.prevBit && !watched s.tac (counterAfter s 1)) = true := by rw [hprev, hlow]; rfl
  rw [tick_eq (by rw [hreload]; rfl) (add_one_eq_ofNat s.counter) hfalls]
  simp [stepTimaIf, overflowed, counterAfter, hreload, htima]

/-- From a low selected bit on, a fall takes more than half a period, so there is none while the reload counts down. -/
theorem not_fallsAfter_of_low {s : State} (henabled : 4 ≤ s.tac.toNat)
    (hlow : watched s.tac (counterAfter s 1) = false) {k : Nat} (hk : k ≤ 3) : fallsAfter s (k + 1) = false := by
  rw [← Bool.not_eq_true, watched_iff henabled, counterAfter_mod_period] at hlow
  rw [← Bool.not_eq_true, fallsAfter_iff henabled]
  obtain hp | hp | hp | hp := period_cases s.tac <;> rw [hp] at hlow ⊢ <;> omega

/-- A tick within the countdown; the last one loads TMA and requests the interrupt. -/
theorem tick_overflowed {s : State} (henabled : 4 ≤ s.tac.toNat)
    (hlow : watched s.tac (counterAfter s 1) = false) {k : Nat} (hk : k ≤ 3) : (overflowed s k).tick =
    if k = 3 then { overflowed s 4 with tima := s.tma, reload := none, ifBits := s.ifBits ||| 0b00100 }
    else overflowed s (k + 1) := by
  have hfalls := not_fallsAfter_of_low henabled hlow hk
  have hok : reloadOk (overflowed s k).reload = true := by simp [overflowed, reloadOk]; omega
  rw [tick_eq hok (counterAfter_add_one s (k + 1)) hfalls]
  by_cases hlast : k = 3
  · subst hlast
    rfl
  · have hne : 4 - k ≠ 1 := by omega
    simp [overflowed, hlast, hne, stepTimaIf, Nat.sub_sub]

theorem ticks_overflowed {s : State} (henabled : 4 ≤ s.tac.toNat) (hreload : s.reload = none) (htima : s.tima = 0xFF)
    (hprev : s.prevBit = true) (hlow : watched s.tac (counterAfter s 1) = false) {k : Nat} (hk : k ≤ 3) :
    State.ticks (k + 1) s = overflowed s k := by
  induction k with
  | zero => exact tick_overflows hreload htima hprev hlow
  | succ k ih => rw [ticks_succ, ih (by omega), tick_overflowed henabled hlow (by omega), if_neg (by omega)]

/-- Settles O53: the overflow, three ticks of the countdown, and the tick that loads TMA. -/
theorem timerOverflowReloadsAfterFourTicks : Obligations.TimerOverflowReloadsAfterFourTicks := by
  unfold Obligations.TimerOverflowReloadsAfterFourTicks
  intro s hreload htima hprev hlow henabled
  have hlow : watched s.tac (counterAfter s 1) = false := by rwa [counterAfter, ← add_one_eq_ofNat]
  have hticks {k : Nat} (hk : k ≤ 3) := ticks_overflowed henabled hreload htima hprev hlow hk
  have hlast : State.ticks 5 s =
      { overflowed s 4 with tima := s.tma, reload := none, ifBits := s.ifBits ||| 0b00100 } := by
    rw [ticks_succ, hticks (Nat.le_refl 3), tick_overflowed henabled hlow (Nat.le_refl 3), if_pos rfl]
  refine ⟨fun k hpos hk => ?_, ?_⟩
  · obtain ⟨j, rfl⟩ : ∃ j, k = j + 1 := ⟨k - 1, by omega⟩
    rw [hticks (by omega)]
    exact ⟨rfl, rfl⟩
  · rw [hlast]
    exact ⟨rfl, rfl, rfl⟩

/-! ## The period of TIMA (R349) -/

/-- `n` ticks after `s`, at most one period on: TIMA has gone up once the counter has passed a multiple of the period. -/
def counted (s : State) (n : Nat) : State := { s with
  counter := counterAfter s n, prevBit := watched s.tac (counterAfter s n)
  tima := if s.counter.toNat % period s.tac + n < period s.tac then s.tima else BitVec.ofNat 8 (s.tima.toNat + 1) }

theorem counted_zero {s : State} (hprev : s.prevBit = watched s.tac s.counter) : counted s 0 = s := by
  have hlt : s.counter.toNat % period s.tac < period s.tac := Nat.mod_lt _ (by unfold period; split_ifs <;> decide)
  simp [counted, counterAfter_zero, ← hprev, hlt]

/-- Within a period the selected bit falls at one tick, the one that completes it. -/
theorem fallsAfter_eq_completes {s : State} (henabled : 4 ≤ s.tac.toNat) {n : Nat} (hn : n < period s.tac) :
    fallsAfter s n = decide (s.counter.toNat % period s.tac + (n + 1) = period s.tac) := by
  rw [Bool.eq_iff_iff, decide_eq_true_iff, fallsAfter_iff henabled]
  obtain hp | hp | hp | hp := period_cases s.tac <;> rw [hp] at hn ⊢ <;> omega

theorem tick_counted {s : State} (henabled : 4 ≤ s.tac.toNat) (hreload : s.reload = none) (htima : s.tima ≠ 0xFF) {n : Nat}
    (hn : n < period s.tac) : (counted s n).tick = counted s (n + 1) := by
  have hok : reloadOk (counted s n).reload = true := by rw [counted, hreload]; rfl
  rw [tick_eq hok (counterAfter_add_one s n) (fallsAfter_eq_completes henabled hn)]
  by_cases hcompletes : s.counter.toNat % period s.tac + (n + 1) = period s.tac
  · have hbefore : s.counter.toNat % period s.tac + n < period s.tac := by omega
    simpa [counted, stepTimaIf, hreload, hbefore, hcompletes] using htima
  · have hsame : s.counter.toNat % period s.tac + (n + 1) < period s.tac ↔
        s.counter.toNat % period s.tac + n < period s.tac := by omega
    simp [counted, stepTimaIf, hreload, hcompletes, hsame]

theorem ticks_counted {s : State} (henabled : 4 ≤ s.tac.toNat) (hprev : s.prevBit = watched s.tac s.counter)
    (hreload : s.reload = none) (htima : s.tima ≠ 0xFF) {n : Nat} (hn : n ≤ period s.tac) :
    State.ticks n s = counted s n := by
  induction n with
  | zero => exact (counted_zero hprev).symm
  | succ n ih => rw [ticks_succ, ih (by omega), tick_counted henabled hreload htima hn]

/-- Settles O54: the state after a whole period, in which the selected bit is again what it was. -/
theorem timaCountsOncePerPeriod : Obligations.TimaCountsOncePerPeriod := by
  unfold Obligations.TimaCountsOncePerPeriod
  intro s henabled hprev hreload htima
  have hsame : watched s.tac (counterAfter s (period s.tac)) = s.prevBit := by
    rw [hprev, Bool.eq_iff_iff, watched_iff henabled, watched_iff henabled, counterAfter_mod_period, Nat.add_mod_right]
  rw [ticks_counted henabled hprev hreload htima (Nat.le_refl _), counted, hsame, if_neg (by omega)]
  rfl

end Sys2Proof
end

section
/-! PROOFS. Interrupts (spec/60_exceptions.md R300 to R313, R332, R333): the controller's operations bit by bit, the step that
dispatches, the return by RETI, and the halted step. -/

namespace Sys2Proof

open Sys2Proof.Machine Sys2Proof.Claims

/-! ## The controller (R301 to R305) -/

theorem bit_eq_bitOf (src : Source) : src.bit = bitOf src := by
  cases src <;> rfl

theorem vector_eq (src : Source) : src.vector = BitVec.ofNat 16 (0x40 + 8 * bitOf src) := by
  cases src <;> rfl

theorem request_eq (s : State) (src : Source) :
    s.request src = { s with ifBits := s.ifBits ||| BitVec.ofNat 5 (2 ^ bitOf src) } := by
  cases src <;> rfl

theorem service_eq (s : State) (src : Source) :
    s.service src = { s with ifBits := s.ifBits &&& BitVec.ofNat 5 (31 - 2 ^ bitOf src) } := by
  cases src <;> rfl

theorem pending_iff (s : State) {k : Nat} (hk : k < 5) : Pending s k ↔ s.pendingBits.getLsbD k = true := by
  simp [Pending, State.pendingBits, hk]

theorem bitOf_lt (src : Source) : bitOf src < 5 := by
  cases src <;> decide

/-- The chosen source by the one word of pending bits (R303). -/
theorem chosen_iff (s : State) (src : Source) : Chosen s src ↔
    s.pendingBits.getLsbD (bitOf src) = true ∧ ∀ k < bitOf src, ¬ s.pendingBits.getLsbD k = true := by
  have hlt := bitOf_lt src
  exact and_congr (pending_iff s hlt) (forall₂_congr fun k hk => (pending_iff s (hk.trans hlt)).not)

/-- `GetPending()` tests the bits in rising order; the five bits are all there is to check. -/
theorem getPending_eq_some_iff (s : State) (src : Source) : s.getPending = some src ↔ Chosen s src := by
  rw [chosen_iff, State.getPending]
  generalize s.pendingBits = pending
  revert pending
  cases src <;> decide

theorem getPending_eq_none_iff (s : State) : s.getPending = none ↔ s.pendingBits = 0 := by
  rw [State.getPending]
  generalize s.pendingBits = pending
  revert pending
  decide

theorem pendingBits_eq_zero_iff (s : State) : s.pendingBits = 0 ↔ ∀ k < 5, ¬ Pending s k := by
  rw [forall₂_congr fun k hk => (pending_iff s hk).not]
  generalize s.pendingBits = pending
  revert pending
  decide

theorem anyPending_iff_getPending (s : State) : s.anyPending = true ↔ s.getPending ≠ none := by
  rw [State.anyPending, bne_iff_ne, ne_eq, ne_eq, getPending_eq_none_iff]
  rfl

/-- Settles O44: each operation on the five bits. -/
theorem interruptControllerOperations : Obligations.InterruptControllerOperations := by
  unfold Obligations.InterruptControllerOperations
  intro s src
  exact ⟨request_eq s src, getPending_eq_some_iff s src,
    (getPending_eq_none_iff s).trans (pendingBits_eq_zero_iff s), anyPending_iff_getPending s, service_eq s src,
    vector_eq src⟩

/-! ## The wake-up (R311) -/

/-- A pending interrupt leaves no halted state at the boundary, whatever IME is. -/
theorem wake_of_anyPending {s : State} (h : s.anyPending = true) : s.wake = { s with halted := false } :=
  if_pos h

theorem wake_anyPending (s : State) : s.wake.anyPending = s.anyPending := by
  rw [State.wake_state]
  rfl

theorem hostPhase_anyPending_of_boundary {s : State}
    (h : (atBoundary s).ifBits &&& (atBoundary s).ie.setWidth 5 ≠ 0) : s.hostPhase.anyPending = true := by
  rwa [← anyPending_iff, ← wake_hostPhase, wake_anyPending] at h

theorem atBoundary_halted {s : State} (h : (atBoundary s).ifBits &&& (atBoundary s).ie.setWidth 5 ≠ 0) :
    (atBoundary s).halted = false := by
  rw [← wake_hostPhase, wake_of_anyPending (hostPhase_anyPending_of_boundary h)]

/-! ## The step that dispatches (R312) -/

theorem pendingBits_ne_zero_of_chosen {s : State} {src : Source} (h : Chosen s src) :
    s.ifBits &&& s.ie.setWidth 5 ≠ 0 := by
  rw [← getPending_eq_some_iff] at h
  rw [← anyPending_iff, anyPending_iff_getPending, h]
  exact Option.some_ne_none src

theorem step_of_chosen {s : State} {src : Source} (hfatal : s.fatal = none) (hime : (atBoundary s).ime = true)
    (hchosen : Chosen (atBoundary s) src) : step s = .next (((atBoundary s).takeInterrupt src).elapse 20) := by
  refine step_of_cpuStep (u := (atBoundary s).takeInterrupt src) hfatal ?_
  have hsource : (atBoundary s).dispatchSource = some src := by
    rw [State.dispatchSource, if_pos hime, (getPending_eq_some_iff _ _).mpr hchosen]
  simp only [cpuStep, wake_hostPhase, hsource]

/-- Trap entry in the statements' words (R312). -/
theorem takeInterrupt_eq (s : State) (src : Source) : s.takeInterrupt src =
    let p := pushed { s with ime := false, eiPending := false } (high s.pc) (low s.pc)
    { p with
      ifBits := p.ifBits &&& BitVec.ofNat 5 (31 - 2 ^ bitOf src)
      pc := BitVec.ofNat 16 (0x40 + 8 * bitOf src), cycles := 20 } := by
  rw [State.takeInterrupt, push16_eq_pushed, service_eq, vector_eq]
  rfl

/-- Settles O46: the boundary's `Step()` takes the chosen interrupt, in 20 ticks. -/
theorem interruptDispatch : Obligations.InterruptDispatch := by
  unfold Obligations.InterruptDispatch
  intro s src hfatal b hime hchosen
  refine ⟨atBoundary_halted (pendingBits_ne_zero_of_chosen hchosen), ?_⟩
  rw [step_of_chosen hfatal hime hchosen, takeInterrupt_eq]

/-! ## The return by RETI (R333) -/

/-- A tick requests the Timer interrupt alone (R348). -/
theorem tick_ifBits_of_ne (s : State) {k : Nat} (hk : k ≠ bitOf .timer) :
    s.tick.ifBits.getLsbD k = s.ifBits.getLsbD k := by
  unfold State.tick
  simp only
  split
  · have hbit : (BitVec.ofNat 5 (2 ^ bitOf .timer)).getLsbD k = false := by
      rw [BitVec.getLsbD_ofNat, Nat.testBit_two_pow_of_ne hk.symm, Bool.and_false]
    rw [request_eq, BitVec.getLsbD_or, hbit, Bool.or_false, State.timerTick_ifBits]
  · rw [State.timerTick_ifBits]

theorem ticks_ifBits_of_ne (n : Nat) (s : State) {k : Nat} (hk : k ≠ bitOf .timer) :
    (State.ticks n s).ifBits.getLsbD k = s.ifBits.getLsbD k := by
  induction n with
  | zero => rfl
  | succ n ih => rw [ticks_succ, tick_ifBits_of_ne _ hk, ih]

theorem service_ifBits_self (s : State) (src : Source) : (s.service src).ifBits.getLsbD (bitOf src) = false := by
  have hmask : (BitVec.ofNat 5 (31 - 2 ^ bitOf src)).getLsbD (bitOf src) = false := by cases src <;> rfl
  rw [service_eq, BitVec.getLsbD_and, hmask, Bool.and_false]

/-- Trap entry clears the IF bit of its source, and the ticks after it request none but the Timer's. -/
theorem elapse_takeInterrupt_ifBits {src : Source} (hsrc : src ≠ .timer) (s : State) (k : Nat) :
    ((s.takeInterrupt src).elapse k).ifBits.getLsbD (bitOf src) = false := by
  have hne : bitOf src ≠ bitOf .timer := by
    revert hsrc
    cases src <;> decide
  rw [State.elapse_state]
  exact (ticks_ifBits_of_ne k _ hne).trans (service_ifBits_self _ src)

/-- In plain RAM `Pop16()` reads memory alone. -/
theorem pop16_plainRam_congr {s t : State} (hsp : t.sp = s.sp) (hmem : t.mem = s.mem) (hlow : PlainRam s.sp)
    (hhigh : PlainRam (s.sp + 1)) : t.pop16.1 = s.pop16.1 := by
  rw [pop16_plainRam hlow hhigh, pop16_plainRam (hsp ▸ hlow) (hsp ▸ hhigh), hsp, hmem]

/-- The state in trap entry after its push (R312). -/
def trapPushed (s : State) : State := State.push16 { s with ime := false, eiPending := false } s.pc

theorem trapPushed_sp (s : State) : (trapPushed s).sp = s.sp - 2 := State.push16_sp _ _

theorem takeInterrupt_eq_trapPushed (s : State) (src : Source) :
    s.takeInterrupt src = ((trapPushed s).service src).finish src.vector 20 := rfl

theorem elapse_takeInterrupt_sp (s : State) (src : Source) (k : Nat) :
    ((s.takeInterrupt src).elapse k).sp = (trapPushed s).sp := by
  rw [State.elapse_state, takeInterrupt_eq_trapPushed, State.finish_sp, State.service_sp]

theorem elapse_takeInterrupt_mem (s : State) (src : Source) (k : Nat) :
    ((s.takeInterrupt src).elapse k).mem = (trapPushed s).mem := by
  rw [State.elapse_state, takeInterrupt_eq_trapPushed, State.finish_mem, State.service_mem]

/-- Popping after trap entry and any ticks gives back the PC of the boundary (R312, R333). -/
theorem pop16_elapse_takeInterrupt {s : State} (hwf : s.mem.wf) (hhigh : PlainRam (s.sp - 1))
    (hlow : PlainRam (s.sp - 2)) (src : Source) (k : Nat) :
    ((s.takeInterrupt src).elapse k).pop16.1 = s.pc := by
  have hsp : ((trapPushed s).finish src.vector 20).sp = s.sp - 2 := trapPushed_sp s
  have hone : s.sp - 2 + 1 = s.sp - 1 := by bv_omega
  calc ((s.takeInterrupt src).elapse k).pop16.1
    _ = ((trapPushed s).finish src.vector 20).pop16.1 :=
      pop16_plainRam_congr (elapse_takeInterrupt_sp s src k) (elapse_takeInterrupt_mem s src k)
        (by rwa [hsp]) (by rwa [hsp, hone])
    _ = s.pc := congrArg Prod.fst
      (pop16_finish_push16 (s := { s with ime := false, eiPending := false }) hwf hhigh hlow s.pc src.vector 20)

theorem atBoundary_mem (s : State) : (atBoundary s).mem = s.mem := by
  rw [← wake_hostPhase, State.wake_state, State.hostPhase_state]

/-- Settles O60: RETI pops the PC that trap entry pushed, and nothing in between writes the registers or that memory. -/
theorem dispatchThenReti : Obligations.DispatchThenReti := by
  unfold Obligations.DispatchThenReti
  intro s src hfatal hwf b hime hchosen hhigh hlow
  have hpop : ((b.takeInterrupt src).elapse 20).pop16.1 = b.pc :=
    pop16_elapse_takeInterrupt ((atBoundary_mem s).symm ▸ hwf) hhigh hlow src 20
  have hsp : b.sp - 2 + 2 = b.sp := by bv_omega
  refine ⟨_, _, step_of_chosen hfatal hime hchosen, ?_, ?_, fun hsrc => elapse_takeInterrupt_ifBits hsrc b 20,
    exec_reti _, ?_⟩
  · rw [State.elapse_state, State.takeInterrupt_state]
  · rw [State.elapse_state, State.takeInterrupt_state]
    exact vector_eq src
  · rw [State.returnFromInterrupt_state, hpop, State.elapse_state, State.takeInterrupt_state]
    exact ⟨rfl, hsp, rfl, rfl, rfl, rfl, rfl⟩

/-! ## The halted step (R313) -/

/-- `Step()` begins with the wake-up and looks at nothing before it. -/
theorem cpuStep_eq_of_wake_eq {s t : State} (h : s.wake = t.wake) : cpuStep s = cpuStep t := by
  rw [cpuStep, cpuStep, h]

theorem step_withHalted {s : State} (h : s.hostPhase.anyPending = true) (b : Bool) :
    step { s with halted := b } = step s := by
  have hwake : State.wake { s.hostPhase with halted := b } = s.hostPhase.wake := by
    rw [wake_of_anyPending h]
    exact wake_of_anyPending h
  simp only [step, systemStep, State.hostPhase_halted, cpuStep_eq_of_wake_eq hwake]

theorem cpuStep_idle {s : State} (hpending : (atBoundary s).pendingBits = 0) (hhalted : (atBoundary s).halted = true) :
    cpuStep s.hostPhase = .next { atBoundary s with cycles := 4 } := by
  have hsource : (atBoundary s).dispatchSource = none := by
    rw [State.dispatchSource, getPending_of_pendingBits_eq_zero hpending, ite_self]
  simp only [cpuStep, wake_hostPhase, hsource, if_pos hhalted]

/-- Settles O47: the wake-up where a source is pending, and the idle step where none is. -/
theorem haltedIdleStep : Obligations.HaltedIdleStep := by
  unfold Obligations.HaltedIdleStep
  intro s hfatal
  exact ⟨atBoundary_halted, wake_hostPhase s,
    fun hpending => (step_withHalted (hostPhase_anyPending_of_boundary hpending) false).symm,
    fun hpending hhalted => step_of_cpuStep hfatal (cpuStep_idle hpending hhalted)⟩

end Sys2Proof
end

section
/-! PROOFS. The step of the engine (spec/60_exceptions.md R314 to R322): a fetch of the decoded instruction and its run, the HALT
bug, and the host's turn. -/

namespace Sys2Proof

open Sys2Proof.Machine Sys2Proof.Claims

/-! ## The fetch of a decoded instruction (R314) -/

theorem instr_of_takeOperands {i : Instr} {bytes rest : List Byte} {c : CodedInstr}
    (h : takeOperands i bytes = .ok (c, rest)) : c.instr = i := by
  unfold takeOperands at h
  split at h
  · cases h
  · injection h with h
    rw [← (Prod.mk.inj h).1]

/-- After 0xCB the second byte is decoded, and else the first (R100). -/
theorem decode_of_decodeBytes {op op2 : Byte} {more rest : List Byte} {c : CodedInstr}
    (h : decodeBytes (op :: op2 :: more) = .ok (c, rest)) :
    (if op = 0xCB then decode op2 true else decode op false) = some c.instr := by
  unfold decodeBytes at h
  simp only at h
  split at h
  · rename_i hprefix
    rw [if_pos hprefix, instr_of_takeOperands h]
    rfl
  · rename_i hprefix
    rw [if_neg hprefix]
    split at h
    · cases h
    · rename_i hdecode
      rw [hdecode, instr_of_takeOperands h]

/-- The state after S4 (R314): one bus read, and a second one after 0xCB. -/
def afterFetch (s : State) : State :=
  if (s.read s.pc).1 = 0xCB then ((s.read s.pc).2.read (s.pc + 1)).2 else (s.read s.pc).2

theorem fetch_state_eq (s : State) : s.fetch.state = afterFetch s := by
  unfold State.fetch afterFetch
  simp only
  split <;> rfl

theorem fetch_instr_eq (s : State) : s.fetch.instr =
    if (s.read s.pc).1 = 0xCB then decode ((s.read s.pc).2.read (s.pc + 1)).1 true
    else decode (s.read s.pc).1 false := by
  unfold State.fetch
  simp only
  split <;> rfl

theorem fetchAndRun_of_instr {s : State} {i : Instr} (h : s.fetch.instr = some i) :
    fetchAndRun s = runInstr i s.fetch.state := by
  simp only [fetchAndRun, h]

/-! ## The run of an instruction (R315 to R318, R330) -/

/-- Step S7 in the statements' words (R317). -/
theorem afterExec_eq_afterS7 (s : State) (i : Instr) : s.afterExec i = afterS7 i s := by
  rw [State.afterExec_state, afterS7, Bool.or_comm]

theorem runInstr_of_exec {i : Instr} {s t : State} (hexec : exec i s.haltBugBack = .next t) (hfatal : t.fatal = none) :
    runInstr i s = .next (afterS7 i t) := by
  rw [← afterExec_eq_afterS7]
  simp [runInstr, hexec, hfatal]

theorem runInstr_of_exec_fatal {i : Instr} {s t : State} (hexec : exec i s.haltBugBack = .next t)
    (hfatal : t.fatal ≠ none) : runInstr i s = .next t := by
  simp [runInstr, hexec, Option.isSome_iff_ne_none.mpr hfatal]

/-- An instruction that raises the fatal condition is STOP, which then takes no T-cycle (R274, R330). -/
theorem cycles_of_exec_fatal {i : Instr} {s t : State} (hs : s.fatal = none) (hexec : exec i s = .next t)
    (hfatal : t.fatal ≠ none) : t.cycles = 0 := by
  obtain ⟨-, -, -, -, hstop, -⟩ := engineStateWriters i s t hexec
  obtain rfl := hstop (by rwa [hs])
  rw [exec_stop, stopEngine] at hexec
  split at hexec <;> injection hexec with hexec <;> subst hexec
  · rfl
  · exact absurd hs hfatal

theorem atBoundary_state (s : State) : atBoundary s = { s with
    host := s.host.tail, ifBits := s.hostPhase.ifBits, out := s.hostPhase.out, halted := (atBoundary s).halted } := by
  rw [← wake_hostPhase, State.wake_state, State.hostPhase_state]

theorem atBoundary_fatal (s : State) : (atBoundary s).fatal = s.fatal := by
  rw [atBoundary_state]

/-- A step that reaches its fetch and finds `i` is the run of `i`, then its ticks (R310, R320). -/
theorem step_of_runInstr {s u : State} {i : Instr} (hfetches : Fetches s) (hinstr : (atBoundary s).fetch.instr = some i)
    (hrun : runInstr i (atBoundary s).fetch.state = .next u) : step s = .next (u.elapse u.cycles) :=
  step_of_cpuStep hfetches.1 ((cpuStep_of_fetches hfetches).trans ((fetchAndRun_of_instr hinstr).trans hrun))

/-- Settles O45: the bytes at PC are those that the fetch decodes; a fatal instruction has no S7, and its 0 cycles no ticks. -/
theorem stepRunsTheDecodedInstruction : Obligations.StepRunsTheDecodedInstruction := by
  unfold Obligations.StepRunsTheDecodedInstruction
  intro s t c more rest b b0 b1 f g hfetches hdecode hexec
  have hinstr : b.fetch.instr = some c.instr := (fetch_instr_eq b).trans (decode_of_decodeBytes hdecode)
  have hstate : b.fetch.state = f := fetch_state_eq b
  have hback : b.fetch.state.haltBugBack = g := by rw [hstate]; rfl
  rw [← hback] at hexec
  refine ⟨fun hfatal => step_of_runInstr hfetches hinstr (runInstr_of_exec hexec hfatal), fun hfatal => ?_⟩
  have hsafe : b.fetch.state.haltBugBack.fatal = none := by
    rw [State.haltBugBack_state, State.fetch_state, atBoundary_fatal]
    exact hfetches.1
  have hstep := step_of_runInstr hfetches hinstr (runInstr_of_exec_fatal hexec hfatal)
  rwa [cycles_of_exec_fatal hsafe hexec hfatal] at hstep

/-! ## The HALT bug (R315) -/

theorem fetch_of_not_ppuWindow {s : State} {i : Instr} (hwin : ¬ PpuWindow s.pc)
    (hdecode : decode (s.read s.pc).1 false = some i) : s.fetch = ⟨(s.read s.pc).1, some i, s⟩ := by
  have hsame : (s.read s.pc).2 = s := (readByTheTable s s.pc).2.1 hwin
  have hprefix : (s.read s.pc).1 ≠ 0xCB := fun h => by rw [h] at hdecode; cases hdecode
  simp only [State.fetch, if_neg hprefix, hdecode, hsame]

/-- LD r,d8 loads the byte behind its PC (R123). -/
theorem getReg_of_exec_ldRD8 {r : Reg8} {s t : State} (h : exec (Instr.ldRD8 r) s = .next t) :
    t.getReg r = (s.read (s.pc + 1)).1 := by
  rw [exec_ldRD8] at h
  injection h with h
  subst h
  cases r <;> rfl

/-- Neither S7 nor the ticks write a general register. -/
theorem getReg_elapse_afterS7 (i : Instr) (t : State) (k : Nat) (r : Reg8) :
    (State.elapse (afterS7 i t) k).getReg r = t.getReg r := by
  rw [State.elapse_state]
  cases r <;> rfl

/-- The HALT bug's step back does not change what a bus read returns. -/
theorem read_haltBugBack (s : State) (addr : Word) : (s.haltBugBack.read addr).1 = (s.read addr).1 := by
  rw [State.haltBugBack_state]
  apply State.read_congr <;> rfl

theorem haltBugBack_pc {s : State} (hbug : s.haltBug = true) : s.haltBugBack.pc = s.pc - 1 := by
  rw [State.haltBugBack_state, if_pos hbug]

/-- Under the HALT bug an instruction that is no transfer, not STOP and not HALT leaves PC one byte short of its end, and the
latch clear (R315). -/
theorem exec_haltBugBack {i : Instr} {s : State} (hsafe : s.fatal = none) (hbug : s.haltBug = true) (htr : ¬ Transfer i)
    (hstop : i ≠ .stop) (hhalt : i ≠ .halt) : ∃ t, exec i s.haltBugBack = .next t ∧ t.fatal = none ∧ t.haltBug = false
      ∧ t.pc = s.pc - 1 + BitVec.ofNat 16 i.length := by
  obtain ⟨t, hexec, hpc⟩ := fallsThrough_of_not_transfer s.haltBugBack htr hstop
  obtain ⟨-, -, hlatch, -, hraises, -⟩ := engineStateWriters i s.haltBugBack t hexec
  rw [haltBugBack_pc hbug] at hpc
  rw [State.haltBugBack_state] at hlatch hraises
  refine ⟨t, hexec, by_contra fun h => hstop (hraises ?_), by_contra fun h => hhalt (hlatch h), hpc⟩
  exact fun hsame => h (hsame.trans hsafe)

/-- Settles O50: the instruction runs from PC - 1 and falls through; its first operand byte is the opcode byte itself. -/
theorem haltBugRefetches : Obligations.HaltBugRefetches := by
  unfold Obligations.HaltBugRefetches
  intro s i b hfetches hbug hwin hdecode htr hstop hhalt
  have hfetch : b.fetch = ⟨(b.read b.pc).1, some i, b⟩ := fetch_of_not_ppuWindow hwin hdecode
  have hcancel : b.pc - 1 + 1 = b.pc := BitVec.sub_add_cancel b.pc 1
  obtain ⟨t, hexec, hfatal, hlatch, hpc⟩ :=
    exec_haltBugBack ((atBoundary_fatal s).trans hfetches.1) hbug htr hstop hhalt
  have hrun : runInstr i b.fetch.state = .next (afterS7 i t) := by
    rw [hfetch]
    exact runInstr_of_exec hexec hfatal
  have hpc' : (State.elapse (afterS7 i t) t.cycles).pc = b.pc - 1 + BitVec.ofNat 16 i.length := by
    rwa [State.elapse_state]
  refine ⟨_, step_of_runInstr hfetches (congrArg Fetched.instr hfetch) hrun, hpc', ?_, fun hlen => ?_, fun r hr => ?_⟩
  · rwa [State.elapse_state]
  · rw [hlen] at hpc'
    exact hpc'.trans hcancel
  · subst hr
    rw [getReg_elapse_afterS7, getReg_of_exec_ldRD8 hexec, haltBugBack_pc hbug, hcancel, read_haltBugBack]

/-! ## The host's turn (R321, R322) -/

theorem hostPhase_of_cons {s : State} {acts : List HostAction} {rest : List (List HostAction)} (h : s.host = acts :: rest) :
    s.hostPhase = acts.foldl State.hostAct { s with host := rest } := by
  simp only [State.hostPhase, h]

theorem hostPhase_of_nil {s : State} (h : s.host = []) : s.hostPhase = s := by
  simp only [State.hostPhase, h]

/-- The parameters and the host's inputs to come are the same in both states. -/
def SameInputs (s t : State) : Prop := t.params = s.params ∧ t.host = s.host

theorem sameInputs_of_exec {i : Instr} {s t : State} (h : exec i s = .next t) : SameInputs s t := by
  obtain ⟨-, -, -, -, -, hparams, hhost, -⟩ := engineStateWriters i s t h
  exact ⟨hparams, hhost⟩

theorem sameInputs_of_runInstr {i : Instr} {s u : State} (h : runInstr i s = .next u) : SameInputs s u := by
  obtain ⟨v, hv, ⟨-, rfl⟩ | ⟨-, rfl⟩⟩ := runInstr_cases h
  · have hsame := sameInputs_of_exec hv
    rwa [State.haltBugBack_state] at hsame
  · have hsame := sameInputs_of_exec hv
    rw [State.haltBugBack_state] at hsame
    rwa [State.afterExec_state]

/-- `Step()` leaves the parameters and the host's inputs, in each of the four ways it ends. -/
theorem sameInputs_of_cpuStep {s u : State} (h : cpuStep s = .next u) : SameInputs s u := by
  obtain ⟨src, -, rfl⟩ | ⟨-, -, rfl⟩ | ⟨-, -, -, rfl⟩ | ⟨-, -, i, -, hrun⟩ := cpuStep_cases h
  · rw [State.takeInterrupt_state, State.wake_state]
    exact ⟨rfl, rfl⟩
  · rw [State.wake_state]
    exact ⟨rfl, rfl⟩
  · rw [State.fetch_state, State.wake_state]
    exact ⟨rfl, rfl⟩
  · have hsame := sameInputs_of_runInstr hrun
    rwa [State.fetch_state, State.wake_state] at hsame

theorem inputs_of_step {s t : State} (h : step s = .next t) : t.params = s.params ∧ t.host = s.host.tail := by
  obtain ⟨-, u, hu, rfl⟩ := step_cases h
  have hsame := sameInputs_of_cpuStep hu
  rw [State.hostPhase_state] at hsame
  rwa [State.elapse_state]

/-- Settles O51: a list of actions writes IF and the output as the laws of `hostAct` say, and no other part of a step touches
the queue or the parameters. -/
theorem hostRequestsAndOutput : Obligations.HostRequestsAndOutput := by
  unfold Obligations.HostRequestsAndOutput
  intro s t
  refine ⟨fun acts rest hhost => ⟨?_, fun k hk => ?_⟩, hostPhase_of_nil, rfl, ?_, rfl, inputs_of_step⟩
  · have hout := State.foldl_hostAct_out { s with host := rest } acts
    rw [← hostPhase_of_cons hhost] at hout
    rw [← hout]
    exact (State.hostPhase_state s).trans (by rw [hhost]; rfl)
  · rw [hostPhase_of_cons hhost, State.foldl_hostAct_ifBits _ acts hk]
    simp only [bit_eq_bitOf]
  · simp [State.hasOutput]

end Sys2Proof
end

section
/-! PROOFS. The state after reset (spec/70_reset_and_hazards.md R360 to R365), and the T-cycles of a step (R380). -/

namespace Sys2Proof

open Sys2Proof.Machine Sys2Proof.Claims

/-! ## The memory after reset (R53, R364) -/

/-- `RESET_RAM` reaches no cell of ROM. -/
theorem readByte_loadRam (entries : List (Word × Byte)) (m : Memory) {k : Nat} (hk : k < 0x8000) :
    (loadRam entries m).readByte k = m.readByte k := by
  induction entries generalizing m with
  | nil => rfl
  | cons entry rest ih =>
    obtain ⟨addr, v⟩ := entry
    rw [loadRam]
    split
    · rename_i cell hcell
      have := (storedCell_of_busTarget_ram hcell).2
      rw [ih, Memory.readByte_writeByte_other _ _ (by omega)]
    · exact ih m

/-- The image reaches neither the cells below the one it starts at nor those above ROM. -/
theorem readByte_loadRom_outside (rom : List Byte) {k j : Nat} (m : Memory) (hj : j < k ∨ 0x8000 ≤ j) :
    (loadRom rom k m).readByte j = m.readByte j := by
  induction rom generalizing k m with
  | nil => rfl
  | cons v rest ih =>
    rw [loadRom]
    split
    · rw [ih _ (by omega), Memory.readByte_writeByte_other _ _ (by omega)]
    · rfl

/-- In ROM the image's bytes stand from the cell it starts at, and where it ends the cells read as before. -/
theorem readByte_loadRom (rom : List Byte) {k i : Nat} {m : Memory} (hwf : m.wf) (hi : k + i < 0x8000) :
    (loadRom rom k m).readByte (k + i) = rom.getD i (m.readByte (k + i)) := by
  induction rom generalizing k i m with
  | nil => rfl
  | cons v rest ih =>
    rw [loadRom, if_pos (by omega)]
    cases i with
    | zero => rw [readByte_loadRom_outside _ _ (.inl (by omega))]; exact Memory.readByte_writeByte_same hwf k v
    | succ i =>
      have hrest := ih (Memory.wf_writeByte hwf k v) (k := k + 1) (i := i) (by omega)
      rwa [Memory.readByte_writeByte_other _ _ (by omega), Nat.add_right_comm] at hrest

theorem memory_wf_nil : Memory.wf [] := ⟨.nil, nofun⟩

/-- A ROM address reads as the image's byte, and as 0x00 past its end. -/
theorem read_new_rom (r : Config.ResetParams) (p : Config.Params) (inputs : List (List HostAction)) (rom : List Byte)
    {addr : Word} (haddr : addr.toNat ≤ 0x7FFF) :
    ((State.new r p inputs rom).read addr).1 = rom.getD addr.toNat 0x00 := by
  have hlt : addr.toNat < 0x8000 := Nat.lt_succ_of_le haddr
  have himage := readByte_loadRom rom (k := 0) memory_wf_nil ((Nat.zero_add _).trans_lt hlt)
  rw [Nat.zero_add] at himage
  rw [read_rom _ hlt]
  exact (readByte_loadRam r.ram _ hlt).trans himage

/-- With `RESET_RAM` at its default the RAM is left as unlisted cells, whatever the image. -/
theorem read_new_ram (p : Config.Params) (inputs : List (List HostAction)) (rom : List Byte) {addr : Word}
    (haddr : PlainRam addr) : ((State.new {} p inputs rom).read addr).1 = 0x00 := by
  have habove := (storedCell_of_busTarget_ram (busTarget_ram haddr)).2
  rw [State.read, busTarget_ram haddr]
  exact readByte_loadRom_outside rom [] (.inr habove)

/-- F and the pairs at the defaults of `RESET` (R360). -/
theorem reset_pairs :
    State.reset.f = 0xB0 ∧ State.reset.bc = 0x0013 ∧ State.reset.de = 0x00D8 ∧ State.reset.hl = 0x014D := by
  decide

/-- Settles O55: every field is the one that `State.new` writes, and memory is the image under the entries of `RESET_RAM`. -/
theorem resetState : Obligations.ResetState := by
  unfold Obligations.ResetState
  intro r p inputs rom
  obtain ⟨hf, hbc, hde, hhl⟩ := reset_pairs
  have hif : ((State.new r p inputs rom).read 0xFF0F).1 = 0xE0 := (append_ifBits 0).trans (by decide)
  exact ⟨rfl, rfl, rfl, rfl, rfl, rfl, rfl, rfl, rfl, rfl, rfl, rfl, rfl, rfl, rfl, hf, hbc, hde, hhl, rfl, rfl, rfl, rfl,
    rfl, rfl, rfl, hif, rfl, rfl, rfl, rfl, rfl, rfl, rfl, rfl, rfl, rfl, fun _ => read_new_rom r p inputs rom,
    fun _ => read_new_ram p inputs rom, rfl⟩

/-- Settles O56: no cell is listed, no countdown runs, and the disabled timer selects no bit. -/
theorem resetMeetsTheInvariant : Obligations.ResetMeetsTheInvariant where
  memory := memory_wf_nil
  cells := nofun
  reload := rfl
  prevBit := rfl

/-! ## The cost of an instruction (R380) -/

/-- A count of T-cycles within the bounds that R380 puts on `CYCLES`. -/
abbrev CostBounds (k : Nat) : Prop := 4 ≤ k ∧ k ≤ 24

/-- The `cycles` column of the default table, at the bytes that have a row. -/
theorem costBounds_unprefixedCycles :
    ∀ op : Byte, decode op false ≠ none → CostBounds (unprefixedCycles.getD op.toNat 0) := by decide

/-- The `cycles_taken` column of the default table. -/
theorem costBounds_takenCycles : ∀ row ∈ takenCycles, CostBounds row.2 := by decide

theorem costBounds_defaultCycles (i : Instr) : CostBounds i.defaultCycles := by
  rw [Instr.defaultCycles]
  split_ifs with hunprefixed
  · have hdec := decode_opcode i
    have hble : Nat.ble 0x100 i.opcode = false := Bool.eq_false_iff.mpr (by simp [hunprefixed])
    rw [hble] at hdec
    have hrow := costBounds_unprefixedCycles _ (Option.ne_none_iff_exists'.mpr ⟨i, hdec⟩)
    rwa [BitVec.toNat_ofNat, Nat.mod_eq_of_lt hunprefixed] at hrow
  · decide
  · decide

theorem costBounds_defaultTaken (i : Instr) : CostBounds i.defaultTaken := by
  rw [Instr.defaultTaken]
  cases hrow : takenCycles.lookup i with
  | some k =>
    obtain ⟨before, after, hmem, -⟩ := List.lookup_eq_some_iff.mp hrow
    exact costBounds_takenCycles (i, k) (by simp [hmem])
  | none => exact costBounds_defaultCycles i

/-- An entry of `CYCLES` that meets the constraints of R380 is within the bounds. -/
theorem costBounds_override {p : Config.Params} (hok : p.costsOk = true) {i : Instr} {o : Config.CostOverride}
    (ho : p.costOverride i = some o) : CostBounds o.cycles ∧ CostBounds o.taken := by
  have hentry := List.all_eq_true.1 hok o (List.mem_of_find?_eq_some ho)
  simp only [Bool.and_eq_true, decide_eq_true_eq] at hentry
  obtain ⟨⟨⟨⟨⟨hlow, hhigh⟩, hlowTaken⟩, hhighTaken⟩, -⟩, -⟩ := hentry
  exact ⟨⟨hlow, hhigh⟩, hlowTaken, hhighTaken⟩

/-- Under the constraints of R380 every cost is within the bounds, taken or not. -/
theorem costBounds_of_costsOk {p : Config.Params} (hok : p.costsOk = true) (i : Instr) :
    CostBounds (p.cost i) ∧ CostBounds (p.costTaken i) := by
  rw [Config.Params.cost, Config.Params.costTaken]
  cases ho : p.costOverride i with
  | some o => exact costBounds_override hok ho
  | none => exact ⟨costBounds_defaultCycles i, costBounds_defaultTaken i⟩

/-! ## The T-cycles of a step (R312, R313, R320) -/

/-- Every instruction leaves its cost by `CYCLES`, or its cost when taken, unless it raises the fatal condition (R274, R330,
R380). -/
theorem exec_cycles (i : Instr) (s : State) : ∃ t, exec i s = .next t ∧
    (t.fatal = none → t.cycles = s.params.cost i ∨ t.cycles = s.params.costTaken i) := by
  cases i using Instr.byFamily with
  | h_ldRR dst src => exact ⟨_, exec_ldRR dst src s, fun _ => .inl rfl⟩
  | h_ldRM r => exact ⟨_, exec_ldRM r s, fun _ => .inl rfl⟩
  | h_ldMR r => exact ⟨_, exec_ldMR r s, fun _ => .inl rfl⟩
  | h_ldRD8 r => exact ⟨_, exec_ldRD8 r s, fun _ => .inl rfl⟩
  | h_alu op x => exact ⟨_, exec_alu op x s, fun _ => .inl rfl⟩
  | h_incR r => exact ⟨_, exec_incR r s, fun _ => .inl rfl⟩
  | h_decR r => exact ⟨_, exec_decR r s, fun _ => .inl rfl⟩
  | h_ld16 r => exact ⟨_, exec_ld16 r s, fun _ => .inl rfl⟩
  | h_addHl r => exact ⟨_, exec_addHl r s, fun _ => .inl rfl⟩
  | h_inc16 r => exact ⟨_, exec_inc16 r s, fun _ => .inl rfl⟩
  | h_dec16 r => exact ⟨_, exec_dec16 r s, fun _ => .inl rfl⟩
  | h_push r => exact ⟨_, exec_push r s, fun _ => .inl rfl⟩
  | h_pop r => exact ⟨_, exec_pop r s, fun _ => .inl rfl⟩
  | h_rst n => exact ⟨_, exec_rst n s, fun _ => .inl rfl⟩
  | h_rot op x => exact ⟨_, exec_rot op x s, fun _ => .inl rfl⟩
  | h_bit b x => exact ⟨_, exec_bit b x s, fun _ => .inl rfl⟩
  | h_res b x => exact ⟨_, exec_res b x s, fun _ => .inl rfl⟩
  | h_set b x => exact ⟨_, exec_set b x s, fun _ => .inl rfl⟩
  | h_jpCc cc =>
    rw [exec_jpCc, jumpAbsIf]
    split
    · exact ⟨_, rfl, fun _ => .inr rfl⟩
    · exact ⟨_, rfl, fun _ => .inl rfl⟩
  | h_jrCc cc =>
    rw [exec_jrCc, jumpRelIf]
    split
    · exact ⟨_, rfl, fun _ => .inr rfl⟩
    · exact ⟨_, rfl, fun _ => .inl rfl⟩
  | h_callCc cc =>
    rw [exec_callCc, callAbsIf]
    split
    · exact ⟨_, rfl, fun _ => .inr rfl⟩
    · exact ⟨_, rfl, fun _ => .inl rfl⟩
  | h_retCc cc =>
    rw [exec_retCc, returnIf]
    split
    · exact ⟨_, rfl, fun _ => .inr rfl⟩
    · exact ⟨_, rfl, fun _ => .inl rfl⟩
  | h_stop =>
    rw [exec_stop, stopEngine]
    split
    · exact ⟨_, rfl, nofun⟩
    · exact ⟨_, rfl, fun _ => .inl rfl⟩
  | h_halt =>
    rw [exec_halt, haltEngine]
    split <;> exact ⟨_, rfl, fun _ => .inl rfl⟩
  | h_ldMhlD8 | h_ldhMa8A | h_ldhAMa8 =>
    exact ⟨_, rfl, fun _ => .inl (congrArg (Config.Params.cost · _) (State.imm8_params s))⟩
  | h_ldMa16A | h_ldAMa16 =>
    exact ⟨_, rfl, fun _ => .inl (congrArg (Config.Params.cost · _) (State.imm16_params s))⟩
  | _ => exact ⟨_, rfl, fun _ => .inl rfl⟩

theorem costBounds_of_exec {i : Instr} {s t : State} (hok : s.params.costsOk = true) (h : exec i s = .next t)
    (hsafe : t.fatal = none) : CostBounds t.cycles := by
  obtain ⟨u, hu, hcost⟩ := exec_cycles i s
  injection hu.symm.trans h with hut
  obtain ⟨hcycles, htaken⟩ := costBounds_of_costsOk hok i
  rw [← hut] at hsafe ⊢
  rcases hcost hsafe with hk | hk <;> rwa [hk]

theorem clock_of_exec {i : Instr} {s t : State} (h : exec i s = .next t) : t.clock = s.clock := by
  obtain ⟨-, -, -, -, -, -, -, hclock⟩ := engineStateWriters i s t h
  exact hclock

/-- What `Step()` leaves of the time: a count within the bounds, and the clock not yet moved (R310, R320). -/
def Timed (s u : State) : Prop := CostBounds u.cycles ∧ u.clock = s.clock

theorem timed_of_runInstr {i : Instr} {s u : State} (hok : s.params.costsOk = true) (h : runInstr i s = .next u)
    (hsafe : u.fatal = none) : Timed s u := by
  obtain ⟨v, hv, hend⟩ := runInstr_cases h
  have hclock := clock_of_exec hv
  rw [State.haltBugBack_state] at hclock
  have hbounds := costBounds_of_exec (by rwa [State.haltBugBack_state]) hv
  obtain ⟨-, rfl⟩ | ⟨hfatal, rfl⟩ := hend
  · exact ⟨hbounds hsafe, hclock⟩
  · rw [State.afterExec_state]
    exact ⟨hbounds hfatal, hclock⟩

/-- A dispatch takes 20 T-cycles, a halted step 4, an instruction what `CYCLES` says; an unassigned byte is fatal (R312, R313,
R330). -/
theorem timed_of_cpuStep {s u : State} (hok : s.params.costsOk = true) (h : cpuStep s = .next u) (hsafe : u.fatal = none) :
    Timed s u := by
  obtain ⟨src, -, rfl⟩ | ⟨-, -, rfl⟩ | ⟨-, -, -, rfl⟩ | ⟨-, -, i, -, hrun⟩ := cpuStep_cases h
  · rw [State.takeInterrupt_state, State.wake_state]
    exact ⟨(by decide : CostBounds 20), rfl⟩
  · rw [State.wake_state]
    exact ⟨(by decide : CostBounds 4), rfl⟩
  · exact nomatch hsafe
  · have htimed := timed_of_runInstr (by rwa [State.fetch_state, State.wake_state]) hrun hsafe
    rwa [State.fetch_state, State.wake_state] at htimed

/-- Settles O58: the host's turn takes no time, and the ticks after `Step()` move the clock by the count it returned. -/
theorem stepCostsBetween4And24 : Obligations.StepCostsBetween4And24 := by
  unfold Obligations.StepCostsBetween4And24
  intro s t hok hstep hsafe
  obtain ⟨-, u, hu, rfl⟩ := step_cases hstep
  rw [State.elapse_state] at hsafe ⊢
  obtain ⟨⟨hlow, hhigh⟩, hclock⟩ := timed_of_cpuStep (by rwa [State.hostPhase_state]) hu hsafe
  rw [State.hostPhase_state] at hclock
  exact ⟨hlow, hhigh, congrArg (· + u.cycles) hclock⟩

end Sys2Proof
end
